-- ==== Sys2Proof/Word.lean ====
section
/-! DEFINITION. The words of the block: bytes, the 64-bit command word, slot indices, the 5-bit
brightness and the colour triple (spec/00_scope.md R7, R9, R12; spec/10_state.md R18). -/

namespace Sys2Proof

/-- A byte of the output stream or a colour channel: 8 bits (R7, R9). -/
abbrev Byte := BitVec 8

/-- A command word: 64 bits, bit 0 the least significant (R9, R58). -/
abbrev Word := BitVec 64

/-- An index operand: IDX_W = 16 bits, unsigned (R8, R40, R60). -/
abbrev Index := BitVec 16

/-- A brightness that reaches the wire: 5 bits (R7). -/
abbrev Bright := BitVec 5

/-- A colour, the source's triple (red, green, blue) of 8-bit unsigned integers (R12, R18). -/
structure Color where
  r : Byte
  g : Byte
  b : Byte
deriving DecidableEq, Repr

end Sys2Proof
end

