-- ==== Sys2Proof/Config.lean ====
section
/-! DEFINITION. The implementation parameters of spec/00_scope.md R8, the configuration record of
spec/30_encoding.md R67 with its defaults, and the one free value of the model. -/

namespace Sys2Proof

/-- MAX_LED_COUNT = 2^IDX_W - 1 with IDX_W = 16, the spec's value of the two parameters (R8, D5, log 8). -/
def Config.maxLedCount : Int := 65535

/-- The default of `global_brightness` (R6, R67). -/
def Config.defaultBrightness : Int := 30

/-- The default of `clock_speed_hz` (R6, R67). -/
def Config.defaultClockHz : Int := 8000000

/-- The parameter BRIGHTNESS_CLAMP_POLICY (R8, R25, D9): `saturate` is the spec's value,
`literalExpr` the literal value of the source's expression. -/
inductive ClampPolicy where
  | saturate
  | literalExpr
deriving DecidableEq, Repr

/-- `port_id`: opaque, owned by the transport (R30, D31). DESIGN CHOICE (log 3): a natural number
stands for it; no rule of the block looks at it. -/
abbrev PortId := Nat

/-- `chip_select`: opaque, owned by the transport (R30, D31). DESIGN CHOICE (log 3), as `PortId`. -/
abbrev ChipSelect := Nat

/-- The transport's handle: opaque (R31, U14). DESIGN CHOICE (log 3), as `PortId`. -/
abbrev Handle := Nat

/-- The transport's error value e: opaque, passed on unmodified (R69, R116, U13).
DESIGN CHOICE (log 3), as `PortId`. -/
abbrev ErrorValue := Nat

/-- The configuration record NEW reads (R67). The three integers are signed and unbounded (R9, D10,
D11). The fields with a default in R67 have it here; `ledCount`, `portId` and `chipSelect` have
none. -/
structure ConfigRecord where
  ledCount : Int
  globalBrightness : Int := Config.defaultBrightness
  autoshow : Bool := true
  portId : PortId
  chipSelect : ChipSelect
  clockSpeedHz : Int := Config.defaultClockHz
deriving DecidableEq, Repr

/-- FREE VALUE (log 9): the `port_id` of an assembler line that leaves it out. R71 lets it be left
out and R67 gives no default. -/
opaque Config.omittedPortId : PortId

/-- FREE VALUE (log 9): the `chip_select` of an assembler line that leaves it out. -/
opaque Config.omittedChipSelect : ChipSelect

end Sys2Proof
end

