-- ==== Sys2Proof/Syntax.lean ====
section
/-! DEFINITION. The nine commands of spec/opcode_table.json (spec/30_encoding.md R63), one
constructor each, with the operands the table's row uses. NEW has no operand in its word: its
record is on the configuration port (R58, R67). -/

namespace Sys2Proof

/-- A command of the block (R63). Every operand has exactly the width of its field (R60 to R62), so
every value of the type is a command some word spells. -/
inductive Instr where
  /-- `GET index` (R84). -/
  | getSlot (index : Index)
  /-- `SET index, r, g, b` (R85). -/
  | setSlot (index : Index) (color : Color)
  /-- `SET_RANGE start, end, r, g, b`, the end exclusive (R86). -/
  | setRange (start stop : Index) (color : Color)
  /-- `SET_ALL r, g, b` (R87). -/
  | setAll (color : Color)
  /-- `SHOW` (R97). -/
  | showFrame
  /-- `SET_AUTOSHOW flag` (R108). -/
  | setAutoshow (flag : Bool)
  /-- `CLOSE` (R109). -/
  | closeStrip
  /-- `NEW`, its operands the record on the configuration port (R104). -/
  | newStrip
  /-- `ENCODE` (R96). -/
  | encodeFrame
deriving DecidableEq, Repr

end Sys2Proof
end

