-- ==== Sys2Proof/WellFormed.lean ====
section
/-! DEFINITION. Well-formedness. An `Instr` needs no check: its operands have the widths of their
fields (spec/30_encoding.md R60 to R62). What can be ill-formed is a line as written for the
assembler, whose numbers may not fit a field (R71), and a configuration record (R68). -/

namespace Sys2Proof

/-- An assembler line, its operands as the numbers written (R71). A NEW field left out is `none`.
DESIGN CHOICE (log 16): the `<v>` of `portId` and `chipSelect` is an unsigned number too. -/
inductive SourceLine where
  | get (index : Nat)
  | set (index r g b : Nat)
  | setRange (start stop r g b : Nat)
  | setAll (r g b : Nat)
  | showFrame
  | setAutoshow (flag : Nat)
  | close
  | new (ledCount : Int) (globalBrightness : Option Int) (autoshow : Option Nat)
      (portId chipSelect : Option Nat) (clockSpeedHz : Option Int)
  | encode
deriving DecidableEq, Repr

/-- An index, start or end fits its field: at most 65535 (R71). -/
def fitsIndex (n : Nat) : Bool := n ≤ 65535

/-- A channel fits its field: at most 255 (R71). -/
def fitsChannel (n : Nat) : Bool := n ≤ 255

/-- A flag fits its field: at most 1 (R71). -/
def fitsFlag (n : Nat) : Bool := n ≤ 1

/-- Every operand of the line fits its field, so that the line can be assembled (R71). -/
def SourceLine.wellFormed : SourceLine → Bool
  | .get i => fitsIndex i
  | .set i r g b => fitsIndex i && fitsChannel r && fitsChannel g && fitsChannel b
  | .setRange s e r g b =>
      fitsIndex s && fitsIndex e && fitsChannel r && fitsChannel g && fitsChannel b
  | .setAll r g b => fitsChannel r && fitsChannel g && fitsChannel b
  | .showFrame => true
  | .setAutoshow f => fitsFlag f
  | .close => true
  | .new _ _ a _ _ _ => (a.map fitsFlag).getD true
  | .encode => true

/-- The record is legal to the block (R68): the LED count is in [1, MAX_LED_COUNT] and the clock
speed at least 1. Every value of the other fields is legal. -/
def ConfigRecord.wellFormed (cfg : ConfigRecord) : Bool :=
  decide (1 ≤ cfg.ledCount) && decide (cfg.ledCount ≤ Config.maxLedCount) &&
    decide (1 ≤ cfg.clockSpeedHz)

end Sys2Proof
end

