-- ==== Sys2Proof/Decode.lean ====
section
/-! DEFINITION. Decoding of 64-bit command words by match and mask (spec/30_encoding.md R59 to R66),
and the encoder written from the same field table (R59, R63). -/

namespace Sys2Proof

/-! ### The fields of a command word (R59) -/

/-- IA, bits 59:44. -/
def fieldIA (w : Word) : Index := w.extractLsb' 44 16

/-- IB, bits 43:28. -/
def fieldIB (w : Word) : Index := w.extractLsb' 28 16

/-- F, bit 24. -/
def fieldF (w : Word) : Bool := w.getLsbD 24

/-- RED, GRN, BLU, bits 23:16, 15:8, 7:0, in the order (r, g, b) (R61). -/
def fieldColor (w : Word) : Color :=
  ⟨w.extractLsb' 16 8, w.extractLsb' 8 8, w.extractLsb' 0 8⟩

/-! ### Decoding -/

/-- A row of the opcode table (R64): a word is the command when its masked bits are `pattern`. -/
structure OpcodeRow where
  mnemonic : String
  pattern : Word
  mask : Word
  build : Word → Instr

/-- The opcode table, the rows in the order of R64. -/
def opcodeTable : List OpcodeRow :=
  [ ⟨"GET", 0x1000000000000000, 0xF0000FFFFFFFFFFF, fun w => .getSlot (fieldIA w)⟩,
    ⟨"SET", 0x2000000000000000, 0xF0000FFFFF000000, fun w => .setSlot (fieldIA w) (fieldColor w)⟩,
    ⟨"SET_RANGE", 0x3000000000000000, 0xF00000000F000000,
      fun w => .setRange (fieldIA w) (fieldIB w) (fieldColor w)⟩,
    ⟨"SET_ALL", 0x4000000000000000, 0xFFFFFFFFFF000000, fun w => .setAll (fieldColor w)⟩,
    ⟨"SHOW", 0x5000000000000000, 0xFFFFFFFFFFFFFFFF, fun _ => .showFrame⟩,
    ⟨"SET_AUTOSHOW", 0x6000000000000000, 0xFFFFFFFFFEFFFFFF, fun w => .setAutoshow (fieldF w)⟩,
    ⟨"CLOSE", 0x7000000000000000, 0xFFFFFFFFFFFFFFFF, fun _ => .closeStrip⟩,
    ⟨"NEW", 0x8000000000000000, 0xFFFFFFFFFFFFFFFF, fun _ => .newStrip⟩,
    ⟨"ENCODE", 0x9000000000000000, 0xFFFFFFFFFFFFFFFF, fun _ => .encodeFrame⟩ ]

/-- What a word decodes to (R66): a command, or the refusal `reserved_or_malformed`. -/
inductive Decoded where
  | command (i : Instr)
  | reservedOrMalformed
deriving DecidableEq, Repr

/-- The word's bits under the row's mask are the row's pattern (R64). -/
def OpcodeRow.matches (row : OpcodeRow) (w : Word) : Bool := w &&& row.mask == row.pattern

/-- Decoding with a table: the first row that matches gives the command (R66). -/
def decodeWith : List OpcodeRow → Word → Decoded
  | [], _ => .reservedOrMalformed
  | row :: rows, w => if row.matches w then .command (row.build w) else decodeWith rows w

/-- Decoding (R66): total on 64-bit words, and a function of the word alone. -/
def decode (w : Word) : Decoded := decodeWith opcodeTable w

/-! ### Encoding -/

/-- A command word from its fields, OP in the highest bits; RSV is always 0 (R59, R64). -/
def packFields (op : BitVec 4) (ia ib : Index) (f : Bool) (c : Color) : Word :=
  op ++ ia ++ ib ++ 0#3 ++ BitVec.ofBool f ++ c.r ++ c.g ++ c.b

/-- The colour field of a command that has no colour operand: 0 (R64). -/
def noColor : Color := ⟨0, 0, 0⟩

/-- The word of a command: its opcode (R63), its operands in their fields (R60 to R62), every other
field 0 (R64). -/
def encode : Instr → Word
  | .getSlot i => packFields 0x1 i 0 false noColor
  | .setSlot i c => packFields 0x2 i 0 false c
  | .setRange s e c => packFields 0x3 s e false c
  | .setAll c => packFields 0x4 0 0 false c
  | .showFrame => packFields 0x5 0 0 false noColor
  | .setAutoshow f => packFields 0x6 0 0 f noColor
  | .closeStrip => packFields 0x7 0 0 false noColor
  | .newStrip => packFields 0x8 0 0 false noColor
  | .encodeFrame => packFields 0x9 0 0 false noColor

/-! ### The host's view of the decoder -/

/-- The instruction whose bits are `w`, numbered as spec/opcode_table.json numbers them. A command
is one 64-bit word (R58), so the bits above `nbits` are 0 and there is one word to lay out. -/
def decodeTableWord (nbits w : Nat) : Option Instr :=
  match decode (BitVec.ofNat 64 (w % 2 ^ nbits)) with
  | .command i => some i
  | .reservedOrMalformed => none

end Sys2Proof
end

