-- ==== Sys2Proof/Machine/State.lean ====
section
/-! DEFINITION. The state of the block (spec/10_state.md R14), with the inputs and outputs of its
ports, as plain data; the fault and the refusal; the power-on state (R36, R133). -/

namespace Sys2Proof.Machine

/-- LIFE (R15): NONE, OPEN, CLOSED. -/
inductive Life where
  /-- NONE: no instance was ever constructed. -/
  | lifeNone
  /-- OPEN: an instance exists and its transport is open. -/
  | lifeOpen
  /-- CLOSED: the last instance was closed. -/
  | lifeClosed
deriving DecidableEq, Repr

/-- The status codes of R70. -/
inductive Status where
  | ok
  | invalidConfig
  | indexOutOfRange
  | transportError
deriving DecidableEq, Repr

/-- The outcome of a transport operation as TXLOG records it (R33). -/
inductive TxOutcome where
  | ok
  | err (e : ErrorValue)
deriving DecidableEq, Repr

/-- A transport event (R33). -/
inductive TxEvent where
  | opened (portId : PortId) (chipSelect : ChipSelect) (clockHz : Int) (outcome : TxOutcome)
  | wrote (frame : List Byte) (outcome : TxOutcome)
  | closed (outcome : TxOutcome)
deriving DecidableEq, Repr

/-- The DATA half of a response (R69). -/
inductive Data where
  | empty
  | color (rgb : BitVec 24)
  | bytes (frame : List Byte)
  | error (e : ErrorValue)
deriving DecidableEq, Repr

/-- A response (STATUS, DATA) (R69). -/
structure Response where
  status : Status
  data : Data
deriving DecidableEq, Repr

/-- What the transport answers an operation: a draw (R128). `ok` carries a handle, which only `open`
uses (R10, log 13). `silent` is an operation that never answers (93 U9; DEDUCED, log 5). -/
inductive TransportAnswer where
  | ok (handle : Handle)
  | err (e : ErrorValue)
  | silent
deriving DecidableEq, Repr

/-- One command as the host presents it, with the inputs of its step (R11, R35): the word, the record
on the configuration port, and the transport's answer to the operation the command may perform. A
command performs at most one operation, so one answer is enough (DESIGN CHOICE, log 4). -/
structure Request where
  word : Word
  cfg : ConfigRecord
  answer : TransportAnswer
deriving DecidableEq, Repr

/-- Why a command is refused (R10 `refuse`): the spec's own names. -/
inductive RefuseReason where
  /-- A reserved opcode or a malformed word (R66). -/
  | reservedOrMalformed
  /-- Any command but NEW while LIFE is not OPEN (R111). -/
  | notOpen
  /-- NEW while LIFE is OPEN (R107). -/
  | alreadyOpen
deriving DecidableEq, Repr

/-- Why the machine stops. -/
inductive Fault where
  /-- Raised by SHOW, NEW, CLOSE, and by SET, SET_RANGE and SET_ALL with AUTOSHOW = 1, when the
  transport never answers: the command does not complete (93 U9, `stuck`; DEDUCED, log 5). Safe: the
  model stops where the hardware waits for ever. -/
  | transportSilent
deriving DecidableEq, Repr

/-- Why the model gives an instruction no meaning. A command the spec itself refuses is not this: it
sets REFUSED and the machine goes on (R34). -/
inductive Refusal where
  /-- Raised by no arm of `exec`: every command has its meaning. Safe: the model would stop where
  the hardware goes on. -/
  | notModelled (mnemonic : String)
deriving DecidableEq, Repr

/-- The state. The first twelve fields are the block's own (R14); the others are the model's own: the
response stream, the inputs of the step, and one parameter (R35, INVENTORY.md). -/
structure State where
  /-- LIFE, CR6 (R15). -/
  life : Life
  /-- N, LED_COUNT, CR0, 16 bits (R16, R26). -/
  ledCount : Index
  /-- COLOR, slot 0 first (R17, R20). -/
  color : List Color
  /-- BRIGHT, CR1, 5 bits (R27). -/
  bright : Bright
  /-- AUTOSHOW, CR2, one bit (R28). -/
  autoshow : Bool
  /-- CLOCK_HZ, CR3 (R29). -/
  clockHz : Int
  /-- PORT_ID, CR4 (R30). -/
  portId : PortId
  /-- CHIP_SELECT, CR5 (R30). -/
  chipSelect : ChipSelect
  /-- HANDLE, or none (R31). -/
  handle : Option Handle
  /-- LAST_STATUS, CR7 (R23). -/
  lastStatus : Status
  /-- TXLOG, oldest event first (R33). -/
  txlog : List TxEvent
  /-- REFUSED, the refusal mark (R34). -/
  refused : Bool
  /-- The response stream, oldest first (R39, R42; log 6). -/
  responses : List Response
  /-- The commands the host has presented and the block has not taken, oldest first (R22; log 4). -/
  requests : List Request
  /-- The record on the configuration port (R67; log 4). -/
  cfgPort : ConfigRecord
  /-- The transport's answer to the command at hand (R128; log 4). -/
  transport : TransportAnswer
  /-- The parameter BRIGHTNESS_CLAMP_POLICY (R8, R25; log 7). No step writes it. -/
  clampPolicy : ClampPolicy
deriving DecidableEq, Repr

/-- The power-on state (R36, R133): LIFE = NONE, TXLOG empty, REFUSED = 0, no command pending. Every
other field of the block holds no value there; the values given are DESIGN CHOICE (log 1, and log 4,
log 6 for the ports). The clamp policy is the spec's value (R8, log 7). -/
def State.reset : State where
  life := .lifeNone
  ledCount := 0
  color := []
  bright := 0
  autoshow := false
  clockHz := 0
  portId := 0
  chipSelect := 0
  handle := none
  lastStatus := .ok
  txlog := []
  refused := false
  responses := []
  requests := []
  cfgPort := { ledCount := 0, portId := 0, chipSelect := 0 }
  transport := .silent
  clampPolicy := .saturate

end Sys2Proof.Machine
end

