-- ==== Sys2Proof/Machine/Flags.lean ====
section
/-! DEFINITION. The status register LAST_STATUS (spec/10_state.md R23) and the numeric codes of
STATUS and LIFE (spec/30_encoding.md R70, R26). -/

namespace Sys2Proof.Machine

/-- The 2-bit code of a status (R70). -/
def Status.code : Status → BitVec 2
  | .ok => 0
  | .invalidConfig => 1
  | .indexOutOfRange => 2
  | .transportError => 3

/-- The 2-bit code of LIFE; 3 is never held (R26, CR6). -/
def Life.code : Life → BitVec 2
  | .lifeNone => 0
  | .lifeOpen => 1
  | .lifeClosed => 2

/-- LAST_STATUS <- st (R23). -/
def setStatus (st : Status) (s : State) : State := { s with lastStatus := st }

/-- The write of LAST_STATUS an error makes: only while LIFE = OPEN (R113). -/
def recordStatus (st : Status) (s : State) : State :=
  if s.life = .lifeOpen then setStatus st s else s

end Sys2Proof.Machine
end

