-- ==== Sys2Proof/Machine/Frame.lean ====
section
/-! DEFINITION. The wire format and the encoder ENC (spec/30_encoding.md R73 to R78,
spec/41_encoder_ops.md R93), and the mixed-width view of a per-LED frame (spec/20_memory.md R45). -/

namespace Sys2Proof.Machine

/-- The start frame: 4 bytes of 0x00 (R73). -/
def startFrame : List Byte := [0x00, 0x00, 0x00, 0x00]

/-- The header byte `0xE0 | b5` (R75). -/
def header (b5 : Bright) : Byte := 0xE0#8 ||| b5.zeroExtend 8

/-- A per-LED frame: header, blue, green, red (R74). -/
def ledFrame (c : Color) (b5 : Bright) : List Byte := [header b5, c.b, c.g, c.r]

/-- E(N), the length of the end frame, in the closed form R93 uses (R76, R77). -/
def endFrameLen (n : Nat) : Nat := (n + 14) / 16

/-- The end frame: E(N) bytes of 0x00 (R76). -/
def endFrame (n : Nat) : List Byte := List.replicate (endFrameLen n) 0x00

/-- ENC (R93): the start frame, the LED frames in index order, the end frame. -/
def enc (c : List Color) (b5 : Bright) : List Byte :=
  startFrame ++ c.flatMap (fun x => ledFrame x b5) ++ endFrame c.length

/-- L(N), the length of a frame for N LEDs (R78). -/
def frameLen (n : Nat) : Nat := 4 + 4 * n + endFrameLen n

/-- Bytes grouped into one number, first byte most significant (R45). -/
def groupBigEndian : List Byte → Nat
  | [] => 0
  | x :: xs => x.toNat * 256 ^ xs.length + groupBigEndian xs

/-- Bytes grouped into one number, first byte least significant (R45). -/
def groupLittleEndian : List Byte → Nat
  | [] => 0
  | x :: xs => x.toNat + 256 * groupLittleEndian xs

end Sys2Proof.Machine
end

