-- ==== Sys2Proof/Machine/Operands.lean ====
section
/-! DEFINITION. Operand forms and checks: the index check, the range clamp, the brightness clamp, the
check of a configuration record, and the packed colour of a slot. -/

namespace Sys2Proof.Machine

/-- `InRange(index)` (spec/40_buffer_ops.md R83). -/
def inRange (index ledCount : Index) : Bool := index.toNat < ledCount.toNat

/-- `RangeClamp(start, end, N)` (R82): the half-open slot range a SET_RANGE writes. -/
def rangeClamp (start stop n : Nat) : Nat × Nat :=
  let lo := min start n
  let hi := min stop n
  if hi < lo then (lo, lo) else (lo, hi)

/-- `Clamp(b)` under a policy (spec/10_state.md R25). -/
def clampWith : ClampPolicy → Int → Bright
  | .saturate, b => if b ≤ 0 then 0 else if 31 ≤ b then 31 else BitVec.ofInt 5 b
  | .literalExpr, b =>
      if 0 < b ∧ b < 31 then BitVec.ofInt 5 b else if 0 < b then 0 else 31

/-- The field of a record that InvalidConfig names (R113). -/
inductive ConfigField where
  | ledCount
  | clockSpeedHz
deriving DecidableEq, Repr

/-- The first check of NEW that fails, in NEW's order (spec/42_control_ops.md R104, R105). -/
def configError (cfg : ConfigRecord) : Option ConfigField :=
  if ¬ (1 ≤ cfg.ledCount ∧ cfg.ledCount ≤ Config.maxLedCount) then some .ledCount
  else if ¬ (1 ≤ cfg.clockSpeedHz) then some .clockSpeedHz
  else none

/-- A slot as 24 bits, `RED[23:16], GRN[15:8], BLU[7:0]` (R19). -/
def packColor (c : Color) : BitVec 24 := c.r ++ c.g ++ c.b

/-- The colour (0, 0, 0) every slot holds after NEW (R21). -/
def black : Color := ⟨0, 0, 0⟩

end Sys2Proof.Machine
end

