-- ==== Sys2Proof/Machine/Ops.lean ====
section
/-! DEFINITION. The operations the commands share: responses, errors, refusals, the colour slots, the
transport log, the encode-and-transmit cycle, and taking the next command from the command port. -/

namespace Sys2Proof.Machine

/-- The outcomes of a command of this machine. -/
abbrev Result := Host.Outcome State Fault Refusal

/-! ### Responses, errors, refusals -/

/-- `respond(status, data)` (R10, R42): one response on the response stream. -/
def respond (st : Status) (d : Data) (s : State) : State :=
  { s with responses := s.responses ++ [⟨st, d⟩] }

/-- `LAST_STATUS <- OK; respond(OK, data)`, the end of every command that succeeds while open. -/
def complete (d : Data) (s : State) : State := respond .ok d (setStatus .ok s)

/-- The three errors, with the info `raise` names (R112, R113). -/
inductive CommandError where
  | invalidConfig (field : ConfigField)
  | indexOutOfRange (index : Index)
  | transportError (e : ErrorValue)
deriving DecidableEq, Repr

/-- `code(E)`, the status of an error (R112). -/
def CommandError.status : CommandError → Status
  | .invalidConfig _ => .invalidConfig
  | .indexOutOfRange _ => .indexOutOfRange
  | .transportError _ => .transportError

/-- The DATA of an error's response: e for TransportError(e), empty otherwise (R69, R113). -/
def CommandError.data : CommandError → Data
  | .invalidConfig _ => .empty
  | .indexOutOfRange _ => .empty
  | .transportError e => .error e

/-- `raise E(info)` (R113): the one operation that takes an error. It records the status while
LIFE = OPEN and ends the command with the error's response; there is no trap (R120). -/
def raise (e : CommandError) (s : State) : State :=
  respond e.status e.data (recordStatus e.status s)

/-- `refuse(reason)` (R10, R34): REFUSED <- 1, no response, no event, no other change. DEDUCED (log
11): the machine goes on, and the mark says that claims do not hold past this point. -/
def refuse (_why : RefuseReason) (s : State) : State := { s with refused := true }

/-- `require_open` (R111): the command's body while LIFE = OPEN, a refusal otherwise. -/
def whenOpen (s : State) (body : Result) : Result :=
  if s.life = .lifeOpen then body else .next (refuse .notOpen s)

/-! ### The colour buffer -/

/-- `COLOR[i]` (R20). The default is never reached while the buffer has N slots (R17) and i < N
(DESIGN CHOICE, log 14). -/
def readSlot (i : Index) (s : State) : Color := s.color.getD i.toNat black

/-- `COLOR[i] <- c` (R20). -/
def writeSlot (i : Index) (c : Color) (s : State) : State :=
  { s with color := s.color.set i.toNat c }

/-- `for i in lo .. hi-1: COLOR[i] <- c`, on the slots (R86). -/
def fillSlots (lo hi : Nat) (c : Color) (slots : List Color) : List Color :=
  slots.mapIdx (fun i x => if lo ≤ i ∧ i < hi then c else x)

/-- The same on the state: one atomic write of the whole run (R49, R86). -/
def writeRange (lo hi : Nat) (c : Color) (s : State) : State :=
  { s with color := fillSlots lo hi c s.color }

/-! ### The transport -/

/-- `TXLOG <- TXLOG ++ [event]` (R33). -/
def logEvent (ev : TxEvent) (s : State) : State := { s with txlog := s.txlog ++ [ev] }

/-- The frame of the buffer as it stands: ENC(COLOR[0..N-1], BRIGHT) (R93, R94). -/
def currentFrame (s : State) : List Byte := enc s.color s.bright

/-- `Flush` (R99): encode, transmit on HANDLE, log the write, and answer. A transport that never
answers leaves the command uncompleted (93 U9). -/
def flush (s : State) : Result :=
  match s.transport with
  | .ok _ => .next (complete .empty (logEvent (.wrote (currentFrame s) .ok) s))
  | .err e => .next (raise (.transportError e) (logEvent (.wrote (currentFrame s) (.err e)) s))
  | .silent => .fault .transportSilent

/-- `AutoshowTail` (R98). -/
def autoshowTail (s : State) : Result :=
  if s.autoshow then flush s else .next (complete .empty s)

/-! ### The instance -/

/-- What a successful NEW writes, after its `open` (R36, R104): the block's reset. -/
def buildInstance (cfg : ConfigRecord) (h : Handle) (s : State) : State :=
  { s with
    handle := some h
    ledCount := BitVec.ofInt 16 cfg.ledCount
    color := List.replicate cfg.ledCount.toNat black
    bright := clampWith s.clampPolicy cfg.globalBrightness
    autoshow := cfg.autoshow
    clockHz := cfg.clockSpeedHz
    portId := cfg.portId
    chipSelect := cfg.chipSelect
    life := .lifeOpen
    lastStatus := .ok }

/-- What CLOSE writes (R109): LIFE <- CLOSED, HANDLE <- none, and the instance's other fields are
discarded. DESIGN CHOICE (log 2): a discarded field holds its power-on value; no command reads it
before the next NEW writes it (R36). LAST_STATUS is not written by CLOSE (R23). -/
def discardInstance (s : State) : State :=
  { s with
    life := .lifeClosed
    handle := none
    ledCount := State.reset.ledCount
    color := State.reset.color
    bright := State.reset.bright
    autoshow := State.reset.autoshow
    clockHz := State.reset.clockHz
    portId := State.reset.portId
    chipSelect := State.reset.chipSelect }

/-! ### The command port -/

/-- The next command the host presents, if there is one (R11, R22). -/
def nextRequest (s : State) : Option Request := s.requests.head?

/-- Taking a command: its record and the transport's answer are then on the ports (R11, R35; DESIGN
CHOICE, log 4). -/
def takeRequest (r : Request) (s : State) : State :=
  { s with requests := s.requests.tail, cfgPort := r.cfg, transport := r.answer }

/-- With no command the block is idle and keeps all state (R132; DEDUCED, log 15). -/
def idle (s : State) : State := s

/-- The pending commands with the word `w` in the place of the next one. The next one's record and
answer stay; with nothing pending they are those that stand on the ports. -/
def placeWord (w : Word) (s : State) : List Request :=
  match s.requests with
  | [] => [⟨w, s.cfgPort, s.transport⟩]
  | r :: rest => { r with word := w } :: rest

end Sys2Proof.Machine
end

