-- ==== Sys2Proof/Machine/Buffer.lean ====
section
/-! DEFINITION. The colour buffer commands GET, SET, SET_RANGE, SET_ALL (spec/40_buffer_ops.md). -/

namespace Sys2Proof.Machine

/-- GET (R84): the slot's colour in the response; never transmits. -/
def execGet (index : Index) (s : State) : Result :=
  whenOpen s
    (if inRange index s.ledCount then
      .next (complete (.color (packColor (readSlot index s))) s)
    else .next (raise (.indexOutOfRange index) s))

/-- SET (R85): the index check before any change, the slot, then AutoshowTail. -/
def execSet (index : Index) (c : Color) (s : State) : Result :=
  whenOpen s
    (if inRange index s.ledCount then autoshowTail (writeSlot index c s)
    else .next (raise (.indexOutOfRange index) s))

/-- SET_RANGE (R86): the clamped half-open range, then AutoshowTail once. -/
def execSetRange (start stop : Index) (c : Color) (s : State) : Result :=
  let range := rangeClamp start.toNat stop.toNat s.ledCount.toNat
  whenOpen s (autoshowTail (writeRange range.1 range.2 c s))

/-- SET_ALL (R87): slots 0 to N-1, then AutoshowTail. -/
def execSetAll (c : Color) (s : State) : Result :=
  whenOpen s (autoshowTail (writeRange 0 s.ledCount.toNat c s))

end Sys2Proof.Machine
end

