-- ==== Sys2Proof/Machine/Control.lean ====
section
/-! DEFINITION. The lifecycle and control commands NEW, SET_AUTOSHOW, CLOSE
(spec/42_control_ops.md). -/

namespace Sys2Proof.Machine

/-- `TransportOpen` and what NEW does with its answer (R104), once the record is legal. -/
def openAndBuild (cfg : ConfigRecord) (s : State) : Result :=
  match s.transport with
  | .ok h =>
      .next (respond .ok .empty (buildInstance cfg h
        (logEvent (.opened cfg.portId cfg.chipSelect cfg.clockSpeedHz .ok) s)))
  | .err e =>
      .next (raise (.transportError e)
        (logEvent (.opened cfg.portId cfg.chipSelect cfg.clockSpeedHz (.err e)) s))
  | .silent => .fault .transportSilent

/-- NEW (R104 to R107): refused while open; then led_count, clock_speed_hz, and the open. -/
def execNew (s : State) : Result :=
  if s.life = .lifeOpen then .next (refuse .alreadyOpen s)
  else
    match configError s.cfgPort with
    | some field => .next (raise (.invalidConfig field) s)
    | none => openAndBuild s.cfgPort s

/-- SET_AUTOSHOW (R108): the flag; transmits nothing. -/
def execSetAutoshow (flag : Bool) (s : State) : Result :=
  whenOpen s (.next (complete .empty { s with autoshow := flag }))

/-- CLOSE (R109, R110): the transport's close, and CLOSED whatever it answers. The status is in the
response only (R23). -/
def execClose (s : State) : Result :=
  whenOpen s
    (match s.transport with
    | .ok _ => .next (respond .ok .empty (discardInstance (logEvent (.closed .ok) s)))
    | .err e =>
        .next (respond .transportError (.error e)
          (discardInstance (logEvent (.closed (.err e)) s)))
    | .silent => .fault .transportSilent)

end Sys2Proof.Machine
end

