-- ==== Sys2Proof/Machine/Encoder.lean ====
section
/-! DEFINITION. The encoder commands ENCODE and SHOW (spec/41_encoder_ops.md). -/

namespace Sys2Proof.Machine

/-- ENCODE (R96): the frame in the response, no transport operation. -/
def execEncode (s : State) : Result :=
  whenOpen s (.next (complete (.bytes (currentFrame s)) s))

/-- SHOW (R97): Flush, whatever AUTOSHOW holds. -/
def execShow (s : State) : Result := whenOpen s (flush s)

end Sys2Proof.Machine
end

