-- ==== Sys2Proof/Machine/Dispatch.lean ====
section
/-! DEFINITION. One arm per command of spec/30_encoding.md R63, each a direct call of its meaning. -/

namespace Sys2Proof.Machine

def exec (i : Instr) (s : State) : Host.Outcome State Fault Refusal :=
  match i with
  | .getSlot index => Sys2Proof.Machine.execGet index s
  | .setSlot index color => Sys2Proof.Machine.execSet index color s
  | .setRange start stop color => Sys2Proof.Machine.execSetRange start stop color s
  | .setAll color => Sys2Proof.Machine.execSetAll color s
  | .showFrame => Sys2Proof.Machine.execShow s
  | .setAutoshow flag => Sys2Proof.Machine.execSetAutoshow flag s
  | .closeStrip => Sys2Proof.Machine.execClose s
  | .newStrip => Sys2Proof.Machine.execNew s
  | .encodeFrame => Sys2Proof.Machine.execEncode s

end Sys2Proof.Machine
end

