-- ==== Sys2Proof/Machine/Step.lean ====
section
/-! DEFINITION. One step of the block (spec/00_scope.md R11): take the next command word, decode it,
run it; a word that spells no command is refused (spec/30_encoding.md R66). -/

namespace Sys2Proof.Machine

/-- `Step` (R11). Decoding comes before the lifecycle check (R118). -/
def step (s : State) : Host.Outcome State Fault Refusal :=
  match nextRequest s with
  | none => .next (idle s)
  | some r =>
    match decode r.word with
    | .command i => exec i (takeRequest r s)
    | .reservedOrMalformed => .next (refuse .reservedOrMalformed (takeRequest r s))

/-- The state with the instruction of bits `w` as the next command (log 4). A command is one 64-bit
word, so it is the word of the next request; the bits above `nbits` are 0. -/
def State.withFetchWord (s : State) (nbits w : Nat) : State :=
  { s with requests := placeWord (BitVec.ofNat 64 (w % 2 ^ nbits)) s }

end Sys2Proof.Machine
end

