-- ==== Sys2Proof/Machine/Assembler.lean ====
section
/-! DEFINITION. The assembler of spec/30_encoding.md R71 (D6): from the text of a line to its operands,
and from the operands to the command and NEW's record. The block itself never sees a line. -/

namespace Sys2Proof.Machine

/-! ### From operands to a command -/

/-- What a line assembles to: the command and, for NEW, the record for the configuration port. -/
structure Assembled where
  instr : Instr
  record : Option ConfigRecord := none
deriving DecidableEq, Repr

/-- A colour operand from its three numbers. -/
def colorOfNats (r g b : Nat) : Color :=
  ⟨BitVec.ofNat 8 r, BitVec.ofNat 8 g, BitVec.ofNat 8 b⟩

/-- NEW's record: a field left out takes its default of R67; the two that have none are free values
(log 9). -/
def recordOf (ledCount : Int) (bright : Option Int) (autoshow : Option Nat)
    (port chip : Option Nat) (clock : Option Int) : ConfigRecord where
  ledCount := ledCount
  globalBrightness := bright.getD Config.defaultBrightness
  autoshow := (autoshow.map (· == 1)).getD true
  portId := port.getD Config.omittedPortId
  chipSelect := chip.getD Config.omittedChipSelect
  clockSpeedHz := clock.getD Config.defaultClockHz

/-- The command of a line whose operands fit their fields (R71). -/
def instrOfLine : SourceLine → Assembled
  | .get i => { instr := .getSlot (BitVec.ofNat 16 i) }
  | .set i r g b => { instr := .setSlot (BitVec.ofNat 16 i) (colorOfNats r g b) }
  | .setRange s e r g b =>
      { instr := .setRange (BitVec.ofNat 16 s) (BitVec.ofNat 16 e) (colorOfNats r g b) }
  | .setAll r g b => { instr := .setAll (colorOfNats r g b) }
  | .showFrame => { instr := .showFrame }
  | .setAutoshow f => { instr := .setAutoshow (f == 1) }
  | .close => { instr := .closeStrip }
  | .new n br a p cs clk => { instr := .newStrip, record := some (recordOf n br a p cs clk) }
  | .encode => { instr := .encodeFrame }

/-- Assembling a line (R71): an operand that does not fit its field cannot be assembled. -/
def assembleLine (l : SourceLine) : Option Assembled :=
  if l.wellFormed then some (instrOfLine l) else none

/-! ### From text to operands

DEDUCED (log 10): blanks around an operand are skipped, letters of a mnemonic are capitals as R71
writes them, hexadecimal digits may be small or capital, a minus sign may stand before a number of
NEW's integer fields (R67, V8), and NEW's fields may come in any order (P5), each at most once.

DESIGN CHOICE (log 16): the `<v>` of `port_id` and `chip_select` is read as an unsigned number, decimal
or hexadecimal with `0x`; a blank is the space character; `0x` has a small x; no number has a plus
sign. -/

/-- The value of a hexadecimal digit; decimal digits are its first ten. -/
def digitValue (c : Char) : Option Nat :=
  let n := c.toNat
  if 48 ≤ n ∧ n ≤ 57 then some (n - 48)
  else if 97 ≤ n ∧ n ≤ 102 then some (n - 87)
  else if 65 ≤ n ∧ n ≤ 70 then some (n - 55)
  else none

/-- Digits in a base, after the value read so far. -/
def digitsFrom (base acc : Nat) : List Char → Option Nat
  | [] => some acc
  | c :: cs =>
    match digitValue c with
    | some d => if d < base then digitsFrom base (acc * base + d) cs else none
    | none => none

/-- A number, decimal or hexadecimal with `0x` (R71; its sign and the x, log 16). -/
def numberOf : List Char → Option Nat
  | [] => none
  | '0' :: 'x' :: c :: cs => digitsFrom 16 0 (c :: cs)
  | c :: cs => digitsFrom 10 0 (c :: cs)

/-- A signed number (R67, R71 `<int>`). -/
def integerOf : List Char → Option Int
  | '-' :: cs => (numberOf cs).map (fun n => -(n : Int))
  | cs => (numberOf cs).map (fun n => (n : Int))

/-- A text cut at each `sep`. -/
def splitAt (sep : Char) : List Char → List (List Char)
  | [] => [[]]
  | c :: cs =>
    match splitAt sep cs with
    | [] => [[c]]
    | w :: ws => if c = sep then [] :: w :: ws else (c :: w) :: ws

/-- A text without the blanks, spaces (log 16), at its two ends. -/
def trimBlanks (cs : List Char) : List Char :=
  ((cs.dropWhile (· == ' ')).reverse.dropWhile (· == ' ')).reverse

/-- The operands after the mnemonic, cut at the commas (R71). No text is no operand. -/
def operandsOf (cs : List Char) : List (List Char) :=
  if trimBlanks cs = [] then [] else (splitAt ',' cs).map trimBlanks

/-- All the texts read, or none if one cannot be. -/
def readAll {α : Type} (f : List Char → Option α) : List (List Char) → Option (List α)
  | [] => some []
  | x :: xs =>
    match f x, readAll f xs with
    | some a, some as => some (a :: as)
    | _, _ => none

/-- A `key=value` of NEW. -/
def keyValueOf (cs : List Char) : Option (List Char × List Char) :=
  match splitAt '=' cs with
  | [k, v] => some (trimBlanks k, trimBlanks v)
  | _ => none

/-- The names of NEW's fields (R67, R71). -/
def recordKeys : List (List Char) :=
  ["led_count".toList, "global_brightness".toList, "autoshow".toList, "port_id".toList,
   "chip_select".toList, "clock_speed_hz".toList]

/-- The value of a field that may be left out: `none` if it is unreadable, `some none` if it is left
out. -/
def optionalField {α : Type} (f : List Char → Option α) (key : String)
    (fields : List (List Char × List Char)) : Option (Option α) :=
  match fields.lookup key.toList with
  | none => some none
  | some v => (f v).map some

/-- NEW's fields: known names, each at most once, `led_count` among them (R71). DESIGN CHOICE (log 16):
R71 writes the values of `port_id` and `chip_select` as `<v>` and leaves their text open; here they are
unsigned numbers, decimal or hexadecimal, and any other text is not assembled. -/
def newLineOf (fields : List (List Char × List Char)) : Option SourceLine :=
  let keys := fields.map Prod.fst
  if keys.Nodup ∧ (∀ k ∈ keys, k ∈ recordKeys) then
    match optionalField integerOf "led_count" fields,
        optionalField integerOf "global_brightness" fields,
        optionalField numberOf "autoshow" fields, optionalField numberOf "port_id" fields,
        optionalField numberOf "chip_select" fields,
        optionalField integerOf "clock_speed_hz" fields with
    | some (some n), some br, some a, some p, some cs, some clk => some (.new n br a p cs clk)
    | _, _, _, _, _, _ => none
  else none

/-- The line of a mnemonic and its numbers (R71): the number of operands must be the mnemonic's. -/
def plainLineOf (mnemonic : List Char) (operands : List Nat) : Option SourceLine :=
  if mnemonic = "GET".toList then
    match operands with | [i] => some (.get i) | _ => none
  else if mnemonic = "SET".toList then
    match operands with | [i, r, g, b] => some (.set i r g b) | _ => none
  else if mnemonic = "SET_RANGE".toList then
    match operands with | [s, e, r, g, b] => some (.setRange s e r g b) | _ => none
  else if mnemonic = "SET_ALL".toList then
    match operands with | [r, g, b] => some (.setAll r g b) | _ => none
  else if mnemonic = "SHOW".toList then
    match operands with | [] => some .showFrame | _ => none
  else if mnemonic = "SET_AUTOSHOW".toList then
    match operands with | [f] => some (.setAutoshow f) | _ => none
  else if mnemonic = "CLOSE".toList then
    match operands with | [] => some .close | _ => none
  else if mnemonic = "ENCODE".toList then
    match operands with | [] => some .encode | _ => none
  else none

/-- A line of text: the mnemonic, a blank, the operands (R71). -/
def parseLine (text : String) : Option SourceLine :=
  let cs := trimBlanks text.toList
  let mnemonic := cs.takeWhile (· != ' ')
  let operands := operandsOf (cs.dropWhile (· != ' '))
  if mnemonic = "NEW".toList then (readAll keyValueOf operands).bind newLineOf
  else (readAll numberOf operands).bind (plainLineOf mnemonic)

/-- A line of text assembled (R71). -/
def assembleText (text : String) : Option Assembled := (parseLine text).bind assembleLine

/-- The word a line of text assembles to, if there is one (R71). -/
def wordOfText (text : String) : Option Word :=
  (assembleText text).map (fun a => encode a.instr)

end Sys2Proof.Machine
end

