-- ==== Sys2Proof/Safety.lean ====
section
/-! DEFINITION. What counts as a good state and a good run, in the terms the statements use: the
invariants of the spec's prose, the lifecycle rule, the transport session that TXLOG must show, and
runs of commands under any answers of the transport. -/

namespace Sys2Proof.Machine

/-! ### Invariants of the state -/

/-- While LIFE = OPEN the buffer has exactly N slots (spec/10_state.md R17), N >= 1 (R16), CLOCK_HZ >= 1
(R26), and HANDLE is present; HANDLE is present at no other time (R31). -/
abbrev BufferInv (s : State) : Prop :=
  (s.life = .lifeOpen →
    s.color.length = s.ledCount.toNat ∧ 1 ≤ s.ledCount.toNat ∧ 1 ≤ s.clockHz ∧
      s.handle.isSome = true) ∧
  (s.life ≠ .lifeOpen → s.handle = none)

/-- While LIFE = OPEN, LAST_STATUS is the status of the last response (R23). -/
abbrev StatusInv (s : State) : Prop :=
  s.life = .lifeOpen → s.responses.getLast?.map Response.status = some s.lastStatus

/-- The transport is open after these events, if it was `isOpen` before them and each event is one
the open or closed transport allows; `none` if an event is not (R127, R129, R54). -/
def sessionAfter : Bool → List TxEvent → Option Bool
  | isOpen, [] => some isOpen
  | false, .opened _ _ _ .ok :: es => sessionAfter true es
  | false, .opened _ _ _ (.err _) :: es => sessionAfter false es
  | true, .opened _ _ _ _ :: _ => none
  | true, .wrote _ _ :: es => sessionAfter true es
  | false, .wrote _ _ :: _ => none
  | true, .closed _ :: es => sessionAfter false es
  | false, .closed _ :: _ => none

/-- LIFE = OPEN, as a bit. -/
def Life.isOpen : Life → Bool
  | .lifeNone => false
  | .lifeOpen => true
  | .lifeClosed => false

/-- TXLOG is a sequence of whole sessions, and the last one is open exactly while LIFE = OPEN. -/
abbrev SessionInv (s : State) : Prop :=
  sessionAfter false s.txlog = some s.life.isOpen

/-- The events since the last successful `open`, that event first; none if there is no such event. -/
def lastSession : List TxEvent → List TxEvent
  | [] => []
  | .opened p c k .ok :: es =>
    match lastSession es with
    | [] => .opened p c k .ok :: es
    | e :: rest => e :: rest
  | .opened _ _ _ (.err _) :: es => lastSession es
  | .wrote _ _ :: es => lastSession es
  | .closed _ :: es => lastSession es

/-- The event is a write of a frame of L(n) bytes, or no write (spec/41_encoder_ops.md R100). -/
def frameHasLength (n : Nat) : TxEvent → Bool
  | .wrote f _ => f.length = frameLen n
  | .opened _ _ _ _ => true
  | .closed _ => true

/-- While LIFE = OPEN, the instance's session began by an `open` with its PORT_ID, CHIP_SELECT and
CLOCK_HZ (R29, R30), and every frame written since has the length of N LEDs (R100). -/
abbrev FramesInv (s : State) : Prop :=
  s.life = .lifeOpen →
    (lastSession s.txlog).head? = some (.opened s.portId s.chipSelect s.clockHz .ok) ∧
      (lastSession s.txlog).all (frameHasLength s.ledCount.toNat) = true

/-! ### What reached the chain -/

/-- The bytes that reached the chain: the frames of the writes that answered ok, in order (R33, R51). -/
def chainBytes : List TxEvent → List Byte
  | [] => []
  | .wrote f .ok :: es => f ++ chainBytes es
  | .wrote _ (.err _) :: es => chainBytes es
  | .opened _ _ _ _ :: es => chainBytes es
  | .closed _ :: es => chainBytes es

/-! ### The lifecycle and the kinds of command -/

/-- The command has a meaning in this lifecycle state (spec/60_exceptions.md R125). -/
def accepts (l : Life) : Instr → Bool
  | .newStrip => l != .lifeOpen
  | .getSlot _ => l == .lifeOpen
  | .setSlot _ _ => l == .lifeOpen
  | .setRange _ _ _ => l == .lifeOpen
  | .setAll _ => l == .lifeOpen
  | .showFrame => l == .lifeOpen
  | .setAutoshow _ => l == .lifeOpen
  | .closeStrip => l == .lifeOpen
  | .encodeFrame => l == .lifeOpen

/-- The commands of spec/40_buffer_ops.md: GET, SET, SET_RANGE, SET_ALL (R91). -/
def isBufferCommand : Instr → Bool
  | .getSlot _ => true
  | .setSlot _ _ => true
  | .setRange _ _ _ => true
  | .setAll _ => true
  | .showFrame => false
  | .setAutoshow _ => false
  | .closeStrip => false
  | .newStrip => false
  | .encodeFrame => false

/-- The commands R103 lets stand between two equal frames: GET, SET_AUTOSHOW, ENCODE, SHOW. -/
def keepsFrame : Instr → Bool
  | .getSlot _ => true
  | .setSlot _ _ => false
  | .setRange _ _ _ => false
  | .setAll _ => false
  | .showFrame => true
  | .setAutoshow _ => true
  | .closeStrip => false
  | .newStrip => false
  | .encodeFrame => true

/-- The command mutates the buffer in this state: SET with an index in range, SET_RANGE, SET_ALL
(R90, D14). -/
def mutates (n : Index) : Instr → Bool
  | .setSlot i _ => decide (i.toNat < n.toNat)
  | .setRange _ _ _ => true
  | .setAll _ => true
  | .getSlot _ => false
  | .showFrame => false
  | .setAutoshow _ => false
  | .closeStrip => false
  | .newStrip => false
  | .encodeFrame => false

/-! ### Slots -/

/-- `after` is `before` with the colour `c` in every slot from `lo` to `hi - 1` and nothing else
changed (spec/40_buffer_ops.md R89). -/
def FilledBetween (lo hi : Nat) (c : Color) (before after : List Color) : Prop :=
  ∀ k, after[k]? = if lo ≤ k ∧ k < hi then before[k]?.map (fun _ => c) else before[k]?

/-! ### Runs -/

/-- Commands one after another, each with the transport's answer to it (R54, R128). -/
def runCommands : List (Instr × TransportAnswer) → State → Result
  | [], s => .next s
  | (i, a) :: rest, s =>
    match exec i { s with transport := a } with
    | .next t => runCommands rest t
    | .fault f => .fault f
    | .refused r => .refused r

/-- Two states that may differ only in AUTOSHOW, LAST_STATUS, TXLOG and the responses. -/
def SameBuffer (s t : State) : Prop :=
  t = { s with
    autoshow := t.autoshow, lastStatus := t.lastStatus, txlog := t.txlog,
    responses := t.responses }

/-- The state with other values of what the block only hands to the transport (R29 to R31). -/
def withAddressing (port : PortId) (chip : ChipSelect) (hz : Int) (h : Option Handle)
    (s : State) : State :=
  { s with portId := port, chipSelect := chip, clockHz := hz, handle := h }

end Sys2Proof.Machine
end

