-- ==== Sys2Proof/Certificates/Slice0/Obligations.lean ====
section
/-! DEFINITION. The statements for the provers, from the numbered rules of spec/. Each docstring names
the rules it formalises. None is about a program. -/

open Sys2Proof Sys2Proof.Machine

/-! ### Encoding -/

/-- R63, R64, and vectors V4 and V5: words written out from the spec decode as the spec says. -/
def Obligations.SampleWordsDecode : Prop :=
  decode 0x1FFFF00000000000 = .command (.getSlot 65535) ∧
  decode 0x2000100000FF0000 = .command (.setSlot 1 ⟨255, 0, 0⟩) ∧
  decode 0x3000200640010203 = .command (.setRange 2 100 ⟨1, 2, 3⟩) ∧
  decode 0x4000000000ABCDEF = .command (.setAll ⟨0xAB, 0xCD, 0xEF⟩) ∧
  decode 0x5000000000000000 = .command .showFrame ∧
  decode 0x6000000001000000 = .command (.setAutoshow true) ∧
  decode 0x7000000000000000 = .command .closeStrip ∧
  decode 0x8000000000000000 = .command .newStrip ∧
  decode 0x9000000000000000 = .command .encodeFrame ∧
  decode 0x1000000000000001 = .reservedOrMalformed ∧
  decode 0x2000000001000000 = .reservedOrMalformed ∧
  decode 0x4000100000000000 = .reservedOrMalformed ∧
  decode 0x6000000002000000 = .reservedOrMalformed

/-- R64, with R60 to R62 for the operands: a word is a command exactly when its masked bits are the
command's match, and it is refused exactly when it matches no row. -/
def Obligations.MatchAndMaskDecideTheCommand : Prop :=
  ∀ w : Word,
    (∀ i, decode w = .command (.getSlot i) ↔
      w &&& 0xF0000FFFFFFFFFFF = 0x1000000000000000 ∧ i = w.extractLsb' 44 16) ∧
    (∀ i c, decode w = .command (.setSlot i c) ↔
      w &&& 0xF0000FFFFF000000 = 0x2000000000000000 ∧ i = w.extractLsb' 44 16 ∧
        c = ⟨w.extractLsb' 16 8, w.extractLsb' 8 8, w.extractLsb' 0 8⟩) ∧
    (∀ i j c, decode w = .command (.setRange i j c) ↔
      w &&& 0xF00000000F000000 = 0x3000000000000000 ∧ i = w.extractLsb' 44 16 ∧
        j = w.extractLsb' 28 16 ∧
        c = ⟨w.extractLsb' 16 8, w.extractLsb' 8 8, w.extractLsb' 0 8⟩) ∧
    (∀ c, decode w = .command (.setAll c) ↔
      w &&& 0xFFFFFFFFFF000000 = 0x4000000000000000 ∧
        c = ⟨w.extractLsb' 16 8, w.extractLsb' 8 8, w.extractLsb' 0 8⟩) ∧
    (decode w = .command .showFrame ↔
      w &&& 0xFFFFFFFFFFFFFFFF = 0x5000000000000000) ∧
    (∀ f, decode w = .command (.setAutoshow f) ↔
      w &&& 0xFFFFFFFFFEFFFFFF = 0x6000000000000000 ∧ f = w.getLsbD 24) ∧
    (decode w = .command .closeStrip ↔
      w &&& 0xFFFFFFFFFFFFFFFF = 0x7000000000000000) ∧
    (decode w = .command .newStrip ↔
      w &&& 0xFFFFFFFFFFFFFFFF = 0x8000000000000000) ∧
    (decode w = .command .encodeFrame ↔
      w &&& 0xFFFFFFFFFFFFFFFF = 0x9000000000000000) ∧
    (decode w = .reservedOrMalformed ↔
      w &&& 0xF0000FFFFFFFFFFF ≠ 0x1000000000000000 ∧
      w &&& 0xF0000FFFFF000000 ≠ 0x2000000000000000 ∧
      w &&& 0xF00000000F000000 ≠ 0x3000000000000000 ∧
      w &&& 0xFFFFFFFFFF000000 ≠ 0x4000000000000000 ∧
      w &&& 0xFFFFFFFFFFFFFFFF ≠ 0x5000000000000000 ∧
      w &&& 0xFFFFFFFFFEFFFFFF ≠ 0x6000000000000000 ∧
      w &&& 0xFFFFFFFFFFFFFFFF ≠ 0x7000000000000000 ∧
      w &&& 0xFFFFFFFFFFFFFFFF ≠ 0x8000000000000000 ∧
      w &&& 0xFFFFFFFFFFFFFFFF ≠ 0x9000000000000000)

/-- R59 to R64: decoding the word of a command gives the command, at every value of every operand. -/
def Obligations.DecodeOfEncodeIsIdentity : Prop :=
  ∀ i : Instr, decode (encode i) = .command i

/-- R64: a word that decodes to a command is that command's word, so no two words spell one command
and no unused bit is ignored. -/
def Obligations.EncodeOfDecodeIsIdentity : Prop :=
  ∀ (w : Word) (i : Instr), decode w = .command i → encode i = w

/-- R65, R66, R34: opcodes 0x0 and 0xA to 0xF are refused, whatever the other bits are: the step sets
REFUSED and changes no other field of the block. That the step is a next state is the model's reading
(log 11), and that the refused word is taken like any other, its record and answer put on the ports,
is the model's choice (log 4). -/
def Obligations.ReservedOpcodesAreRefused : Prop :=
  ∀ w : Word, (w.extractLsb' 60 4 = 0x0 ∨ 0xA ≤ (w.extractLsb' 60 4).toNat) →
    decode w = .reservedOrMalformed ∧
    ∀ (s : State) (r : Request) (rest : List Request), s.requests = r :: rest → r.word = w →
      step s = .next
        { s with requests := rest, cfgPort := r.cfg, transport := r.answer, refused := true }

/-- R71: a line assembles exactly when its operands fit their fields, and the fields hold the numbers
written. A NEW line assembles exactly when an autoshow it gives is at most 1; each field it gives is
the record's field, and each of brightness, autoshow and clock that it leaves out takes R67's default,
whatever the others are. Nothing is said of a port_id or chip_select left out: it has no default, and
the model's value for it is free (log 9). One that is given is a number, which is the model's choice for
R71's `<v>` (log 3, log 16). -/
def Obligations.AssemblerKeepsOperands : Prop :=
  (∀ i, if i ≤ 65535 then
      ∃ x : Index, x.toNat = i ∧ assembleLine (.get i) = some ⟨.getSlot x, none⟩
    else assembleLine (.get i) = none) ∧
  (∀ i r g b, if i ≤ 65535 ∧ r ≤ 255 ∧ g ≤ 255 ∧ b ≤ 255 then
      ∃ (x : Index) (c : Color), x.toNat = i ∧ c.r.toNat = r ∧ c.g.toNat = g ∧ c.b.toNat = b ∧
        assembleLine (.set i r g b) = some ⟨.setSlot x c, none⟩
    else assembleLine (.set i r g b) = none) ∧
  (∀ i j r g b, if i ≤ 65535 ∧ j ≤ 65535 ∧ r ≤ 255 ∧ g ≤ 255 ∧ b ≤ 255 then
      ∃ (x y : Index) (c : Color), x.toNat = i ∧ y.toNat = j ∧ c.r.toNat = r ∧ c.g.toNat = g ∧
        c.b.toNat = b ∧ assembleLine (.setRange i j r g b) = some ⟨.setRange x y c, none⟩
    else assembleLine (.setRange i j r g b) = none) ∧
  (∀ r g b, if r ≤ 255 ∧ g ≤ 255 ∧ b ≤ 255 then
      ∃ c : Color, c.r.toNat = r ∧ c.g.toNat = g ∧ c.b.toNat = b ∧
        assembleLine (.setAll r g b) = some ⟨.setAll c, none⟩
    else assembleLine (.setAll r g b) = none) ∧
  (∀ f, if f ≤ 1 then assembleLine (.setAutoshow f) = some ⟨.setAutoshow (decide (f = 1)), none⟩
    else assembleLine (.setAutoshow f) = none) ∧
  assembleLine .showFrame = some ⟨.showFrame, none⟩ ∧
  assembleLine .close = some ⟨.closeStrip, none⟩ ∧
  assembleLine .encode = some ⟨.encodeFrame, none⟩ ∧
  (∀ (n : Int) (br : Option Int) (a p q : Option Nat) (k : Option Int),
    if ∀ f, a = some f → f ≤ 1 then
      ∃ cfg : ConfigRecord, assembleLine (.new n br a p q k) = some ⟨.newStrip, some cfg⟩ ∧
        cfg.ledCount = n ∧
        (∀ x, br = some x → cfg.globalBrightness = x) ∧ (br = none → cfg.globalBrightness = 30) ∧
        (∀ f, a = some f → (cfg.autoshow = true ↔ f = 1)) ∧ (a = none → cfg.autoshow = true) ∧
        (∀ x, p = some x → cfg.portId = x) ∧ (∀ x, q = some x → cfg.chipSelect = x) ∧
        (∀ x, k = some x → cfg.clockSpeedHz = x) ∧ (k = none → cfg.clockSpeedHz = 8000000)
    else assembleLine (.new n br a p q k) = none)

/-! ### One step -/

/-- R11, R66: when the next word decodes to a command, the step is that command's meaning. That the
commands are a list in State whose oldest request is dropped, and that its record and its transport
answer are put on the ports before the command runs, is the model's choice (log 4). -/
def Obligations.StepRunsDecodedCommand : Prop :=
  ∀ (s : State) (r : Request) (rest : List Request) (i : Instr),
    s.requests = r :: rest → decode r.word = .command i →
      step s = exec i { s with requests := rest, cfgPort := r.cfg, transport := r.answer }

/-- R66, R34: a word that spells no command sets REFUSED. No response, no event; every other field
but the ports' is unchanged. The next state is the model's reading (log 11), the taking of the word
its choice (log 4). -/
def Obligations.StepRefusesMalformedWord : Prop :=
  ∀ (s : State) (r : Request) (rest : List Request),
    s.requests = r :: rest → decode r.word = .reservedOrMalformed →
      step s = .next
        { s with requests := rest, cfgPort := r.cfg, transport := r.answer, refused := true }

/-- R132: with no command the block is idle and keeps all state. -/
def Obligations.IdleBlockKeepsState : Prop :=
  ∀ s : State, s.requests = [] → step s = .next s

/-- R107, R111, R125, R34: NONE and CLOSED accept only NEW, OPEN every command but NEW; a command that
is not accepted sets REFUSED and changes nothing else. That this is a next state from which the machine
goes on is the model's reading (log 11). -/
def Obligations.CommandsOutsideLifecycleAreRefused : Prop :=
  (∀ s : State, s.life = .lifeOpen → exec .newStrip s = .next { s with refused := true }) ∧
  (∀ (i : Instr) (s : State), i ≠ .newStrip → s.life ≠ .lifeOpen →
    exec i s = .next { s with refused := true })

/-- R128, D22, 93 U9: exec answers a next state for every command in every state, if the transport
answers (log 5). A command the lifecycle accepts completes; one it does not accept is refused (R107,
R111, R34), and that the refusal is a next state is the model's reading (log 11). -/
def Obligations.CommandsCompleteWhenTransportAnswers : Prop :=
  ∀ (i : Instr) (s : State), s.transport ≠ .silent → ∃ t, exec i s = .next t

/-- 93 U9, R116: a command stops only where the transport never answers, and then only a command that
asks it. That this stop is a fault is the model's form of stuck (log 5). The second clause is the
model's reading (log 11): a command the spec refuses (R34, R107, R111) is a next state with REFUSED = 1,
so exec never answers with a refusal. -/
def Obligations.OnlySilentTransportStops : Prop :=
  (∀ (i : Instr) (s : State) (f : Fault), exec i s = .fault f →
    s.transport = .silent ∧ accepts s.life i = true ∧
      (i = .showFrame ∨ i = .closeStrip ∨ (i = .newStrip ∧ s.cfgPort.wellFormed = true) ∨
        (mutates s.ledCount i = true ∧ s.autoshow = true))) ∧
  (∀ (i : Instr) (s : State) (r : Refusal), exec i s ≠ .refused r)

/-- 93 U9: a command that asks a transport which never answers does not complete. -/
def Obligations.SilentTransportStopsCommands : Prop :=
  ∀ (i : Instr) (s : State), s.transport = .silent → accepts s.life i = true →
    (i = .showFrame ∨ i = .closeStrip ∨ (i = .newStrip ∧ s.cfgPort.wellFormed = true) ∨
      (mutates s.ledCount i = true ∧ s.autoshow = true)) →
    exec i s = .fault .transportSilent

/-! ### Reset and invariants -/

/-- R36, R133: power-on is LIFE = NONE, TXLOG empty, REFUSED = 0, no handle, and only NEW has a
meaning there. -/
def Obligations.PowerOnState : Prop :=
  State.reset.life = .lifeNone ∧ State.reset.txlog = [] ∧ State.reset.refused = false ∧
  State.reset.handle = none ∧ (∀ i, accepts State.reset.life i = true ↔ i = .newStrip)

/-- R16, R17, R23, R29, R31: the invariants hold at power-on. -/
def Obligations.PowerOnMeetsInvariants : Prop :=
  BufferInv State.reset ∧ StatusInv State.reset ∧ SessionInv State.reset ∧ FramesInv State.reset

/-- R16, R17, R26, R31: every step keeps the buffer at N slots with N >= 1, CLOCK_HZ >= 1, and HANDLE
present exactly while LIFE = OPEN. -/
def Obligations.StepKeepsBufferAndHandle : Prop :=
  ∀ s t : State, BufferInv s → step s = .next t → BufferInv t

/-- R23: every step keeps LAST_STATUS equal to the status of the last response while LIFE = OPEN. -/
def Obligations.StepKeepsLastStatus : Prop :=
  ∀ s t : State, StatusInv s → step s = .next t → StatusInv t

/-- R127, R129, R110: every step keeps TXLOG a sequence of whole transport sessions. -/
def Obligations.StepKeepsTransportSession : Prop :=
  ∀ s t : State, SessionInv s → step s = .next t → SessionInv t

/-- R100, R29, R30: every step keeps the frames of the open session at L(N) bytes, after an `open`
with the instance's own addressing and clock. -/
def Obligations.StepKeepsFrameLengths : Prop :=
  ∀ s t : State, BufferInv s → FramesInv s → step s = .next t → FramesInv t

/-- R33, R34: no step removes or changes an event or clears REFUSED, and a step adds at most one
event. -/
def Obligations.LogOnlyGrowsAndMarkStays : Prop :=
  ∀ s t : State, step s = .next t →
    (∃ ev, t.txlog = s.txlog ++ ev ∧ ev.length ≤ 1) ∧ (s.refused = true → t.refused = true)

/-- R42, R34: an executed command gives exactly one response, a refused command none. That a refused
command has a next state is the model's reading (log 11). -/
def Obligations.ExactlyOneResponse : Prop :=
  ∀ (i : Instr) (s t : State), exec i s = .next t →
    if accepts s.life i = true then
      t.refused = s.refused ∧ ∃ r, t.responses = s.responses ++ [r]
    else t.refused = true ∧ t.responses = s.responses

/-- R23, R113, R34: LAST_STATUS is the response's status after an executed command that leaves
LIFE = OPEN, and is not written by a refused command, a NEW that fails, or CLOSE. That a refused command
has a next state is the model's reading (log 11). -/
def Obligations.LastStatusFollowsResponse : Prop :=
  ∀ (i : Instr) (s t : State), exec i s = .next t →
    if accepts s.life i = true ∧ t.life = .lifeOpen then
      ∃ r, t.responses = s.responses ++ [r] ∧ t.lastStatus = r.status
    else t.lastStatus = s.lastStatus

/-- R15: a successful NEW moves NONE or CLOSED to OPEN, CLOSE moves OPEN to CLOSED, and no other
command changes LIFE. -/
def Obligations.LifecycleTransitions : Prop :=
  ∀ (i : Instr) (s t : State), exec i s = .next t →
    t.life = s.life ∨
      (i = .newStrip ∧ s.life ≠ .lifeOpen ∧ t.life = .lifeOpen ∧
        t.responses = s.responses ++ [⟨.ok, .empty⟩]) ∨
      (i = .closeStrip ∧ s.life = .lifeOpen ∧ t.life = .lifeClosed)

/-- R26: after construction only SET_AUTOSHOW (and CLOSE, which ends the instance) writes a control
register other than LAST_STATUS. -/
def Obligations.ControlRegistersAreReadOnly : Prop :=
  ∀ (i : Instr) (s t : State), exec i s = .next t → i ≠ .newStrip → i ≠ .closeStrip →
    t.ledCount = s.ledCount ∧ t.bright = s.bright ∧ t.clockHz = s.clockHz ∧
    t.portId = s.portId ∧ t.chipSelect = s.chipSelect ∧ t.handle = s.handle ∧ t.life = s.life ∧
    t.clampPolicy = s.clampPolicy ∧ t.requests = s.requests ∧ t.cfgPort = s.cfgPort ∧
    t.transport = s.transport ∧
    ((∀ f, i ≠ .setAutoshow f) → t.autoshow = s.autoshow)

/-! ### The colour buffer commands -/

/-- R82: the range clamp, for all bounds and any N. -/
def Obligations.RangeClampIsHalfOpen : Prop :=
  ∀ start stop n : Nat,
    (rangeClamp start stop n).1 = min start n ∧
    (rangeClamp start stop n).2 = (if min stop n < min start n then min start n else min stop n) ∧
    (rangeClamp start stop n).1 ≤ (rangeClamp start stop n).2 ∧ (rangeClamp start stop n).2 ≤ n

/-- R84: GET in range answers OK with the slot's colour as 24 bits, red in the highest, and changes
LAST_STATUS alone. The premise is the buffer's invariant R17. -/
def Obligations.GetAnswersTheSlot : Prop :=
  ∀ (i : Index) (s : State), s.life = .lifeOpen → s.color.length = s.ledCount.toNat →
    i.toNat < s.ledCount.toNat →
    ∃ c : Color, s.color[i.toNat]? = some c ∧
      exec (.getSlot i) s = .next
        { s with lastStatus := .ok,
                 responses := s.responses ++ [⟨.ok, .color (c.r ++ c.g ++ c.b)⟩] }

/-- R84, R19: GET of an index below N whose slot holds `c` completes, with `c` as 24 bits in the
response and LAST_STATUS = OK; it transmits nothing, whatever AUTOSHOW and the transport are. The slot
exists in every open state with N slots (R17). -/
def Obligations.GetCompletesInRange : Prop :=
  ∀ (i : Index) (c : Color) (s : State), s.life = .lifeOpen → i.toNat < s.ledCount.toNat →
    s.color[i.toNat]? = some c →
    exec (.getSlot i) s = .next
      { s with lastStatus := .ok,
               responses := s.responses ++ [⟨.ok, .color (c.r ++ c.g ++ c.b)⟩] }

/-- R83, R115, R117: GET and SET of an index >= N answer INDEX_OUT_OF_RANGE, write no slot and
perform no transport event, whatever AUTOSHOW is. -/
def Obligations.IndexOutOfRangeChangesNothing : Prop :=
  ∀ (i : Index) (c : Color) (s : State), s.life = .lifeOpen → s.ledCount.toNat ≤ i.toNat →
    exec (.getSlot i) s = .next
      { s with lastStatus := .indexOutOfRange,
               responses := s.responses ++ [⟨.indexOutOfRange, .empty⟩] } ∧
    exec (.setSlot i c) s = .next
      { s with lastStatus := .indexOutOfRange,
               responses := s.responses ++ [⟨.indexOutOfRange, .empty⟩] }

/-- R85 to R87, R98: with AUTOSHOW = 0, SET, SET_RANGE and SET_ALL write exactly their slots, answer
OK and transmit nothing. Nothing else changes. -/
def Obligations.MutationsWithoutAutoshow : Prop :=
  ∀ s : State, s.life = .lifeOpen → s.autoshow = false →
    (∀ (i : Index) (c : Color), i.toNat < s.ledCount.toNat →
      exec (.setSlot i c) s = .next
        { s with color := s.color.set i.toNat c, lastStatus := .ok,
                 responses := s.responses ++ [⟨.ok, .empty⟩] }) ∧
    (∀ (a b : Index) (c : Color), ∃ slots : List Color,
      FilledBetween (min a.toNat s.ledCount.toNat) (min b.toNat s.ledCount.toNat) c s.color slots ∧
      exec (.setRange a b c) s = .next
        { s with color := slots, lastStatus := .ok,
                 responses := s.responses ++ [⟨.ok, .empty⟩] }) ∧
    (∀ c : Color, ∃ slots : List Color,
      FilledBetween 0 s.ledCount.toNat c s.color slots ∧
      exec (.setAll c) s = .next
        { s with color := slots, lastStatus := .ok,
                 responses := s.responses ++ [⟨.ok, .empty⟩] })

/-- R85 to R87, R98, R99: with AUTOSHOW = 1 and a transport that answers ok, SET, SET_RANGE and
SET_ALL also write one frame, the encoding of the buffer after their own writes. -/
def Obligations.MutationsWithAutoshow : Prop :=
  ∀ (s : State) (h : Handle), s.life = .lifeOpen → s.autoshow = true → s.transport = .ok h →
    (∀ (i : Index) (c : Color), i.toNat < s.ledCount.toNat →
      exec (.setSlot i c) s = .next
        { s with color := s.color.set i.toNat c, lastStatus := .ok,
                 txlog := s.txlog ++ [.wrote (enc (s.color.set i.toNat c) s.bright) .ok],
                 responses := s.responses ++ [⟨.ok, .empty⟩] }) ∧
    (∀ (a b : Index) (c : Color), ∃ slots : List Color,
      FilledBetween (min a.toNat s.ledCount.toNat) (min b.toNat s.ledCount.toNat) c s.color slots ∧
      exec (.setRange a b c) s = .next
        { s with color := slots, lastStatus := .ok,
                 txlog := s.txlog ++ [.wrote (enc slots s.bright) .ok],
                 responses := s.responses ++ [⟨.ok, .empty⟩] }) ∧
    (∀ c : Color, ∃ slots : List Color,
      FilledBetween 0 s.ledCount.toNat c s.color slots ∧
      exec (.setAll c) s = .next
        { s with color := slots, lastStatus := .ok,
                 txlog := s.txlog ++ [.wrote (enc slots s.bright) .ok],
                 responses := s.responses ++ [⟨.ok, .empty⟩] })

/-- R85 to R87, R116, R117: with AUTOSHOW = 1 and a write that answers err(e), the slots keep their
new values, the failed write is logged, and the response is (TRANSPORT_ERROR, e). -/
def Obligations.MutationsWithFailingWrite : Prop :=
  ∀ (s : State) (e : ErrorValue), s.life = .lifeOpen → s.autoshow = true →
    s.transport = .err e →
    (∀ (i : Index) (c : Color), i.toNat < s.ledCount.toNat →
      exec (.setSlot i c) s = .next
        { s with color := s.color.set i.toNat c, lastStatus := .transportError,
                 txlog := s.txlog ++ [.wrote (enc (s.color.set i.toNat c) s.bright) (.err e)],
                 responses := s.responses ++ [⟨.transportError, .error e⟩] }) ∧
    (∀ (a b : Index) (c : Color), ∃ slots : List Color,
      FilledBetween (min a.toNat s.ledCount.toNat) (min b.toNat s.ledCount.toNat) c s.color slots ∧
      exec (.setRange a b c) s = .next
        { s with color := slots, lastStatus := .transportError,
                 txlog := s.txlog ++ [.wrote (enc slots s.bright) (.err e)],
                 responses := s.responses ++ [⟨.transportError, .error e⟩] }) ∧
    (∀ c : Color, ∃ slots : List Color,
      FilledBetween 0 s.ledCount.toNat c s.color slots ∧
      exec (.setAll c) s = .next
        { s with color := slots, lastStatus := .transportError,
                 txlog := s.txlog ++ [.wrote (enc slots s.bright) (.err e)],
                 responses := s.responses ++ [⟨.transportError, .error e⟩] })

/-- R88, R72: in every state with LIFE = OPEN, SET_ALL c and SET_RANGE 0, e, c for N <= e have the
same outcome. -/
def Obligations.SetAllIsTheFullRange : Prop :=
  ∀ (s : State) (e : Index) (c : Color), s.life = .lifeOpen → s.ledCount.toNat ≤ e.toNat →
    exec (.setAll c) s = exec (.setRange 0 e c) s

/-- R89: after SET_RANGE, whatever its status, slots lo to hi-1 hold c and every other slot is
unchanged. -/
def Obligations.RangeExactness : Prop :=
  ∀ (s t : State) (a b : Index) (c : Color), s.life = .lifeOpen →
    s.color.length = s.ledCount.toNat → exec (.setRange a b c) s = .next t →
    ∀ k, t.color[k]? =
      if (rangeClamp a.toNat b.toNat s.ledCount.toNat).1 ≤ k ∧
          k < (rangeClamp a.toNat b.toNat s.ledCount.toNat).2 then some c
      else s.color[k]?

/-- R90: SET, SET_RANGE and SET_ALL perform at most one transport operation, a write of the buffer
after the whole mutation, and perform it exactly when AUTOSHOW = 1 and the index is in range. -/
def Obligations.OneTransmissionPerMutation : Prop :=
  ∀ (i : Instr) (s t : State), s.life = .lifeOpen → isBufferCommand i = true →
    exec i s = .next t →
    if mutates s.ledCount i = true ∧ s.autoshow = true then
      ∃ o, t.txlog = s.txlog ++ [.wrote (enc t.color t.bright) o]
    else t.txlog = s.txlog

/-- R91, R17: the buffer commands never change N, BRIGHT, AUTOSHOW, CLOCK_HZ, PORT_ID, CHIP_SELECT,
HANDLE or LIFE, nor the number of slots. -/
def Obligations.BufferCommandsKeepRegisters : Prop :=
  ∀ (i : Instr) (s t : State), isBufferCommand i = true → exec i s = .next t →
    t.ledCount = s.ledCount ∧ t.bright = s.bright ∧ t.autoshow = s.autoshow ∧
    t.clockHz = s.clockHz ∧ t.portId = s.portId ∧ t.chipSelect = s.chipSelect ∧
    t.handle = s.handle ∧ t.life = s.life ∧ t.color.length = s.color.length

/-- R92: a slot written by SET, transmitted or not, is read back by GET exactly; every other slot in
range reads as before. -/
def Obligations.GetAfterSetReturnsTheColor : Prop :=
  ∀ (s t u : State) (i j : Index) (c d : Color), s.life = .lifeOpen →
    s.color.length = s.ledCount.toNat → i.toNat < s.ledCount.toNat →
    s.color[j.toNat]? = some d → j.toNat < s.ledCount.toNat →
    exec (.setSlot i c) s = .next t → exec (.getSlot j) t = .next u →
    u.responses = t.responses ++
      [⟨.ok, .color (if j = i then c.r ++ c.g ++ c.b else d.r ++ d.g ++ d.b)⟩]

/-! ### The encoder -/

/-- R77: the closed form (N + 14) div 16 is, for N >= 1, the ceiling of (N-1)/16 (the least number
whose sixteenfold is at least N-1), 0 at N = 0, and the ceiling of max(N-1, 0)/16 for every N. -/
def Obligations.EndFrameLengthIsTheCeiling : Prop :=
  endFrameLen 0 = 0 ∧
  ∀ n : Nat, endFrameLen n = (n + 14) / 16 ∧
    (1 ≤ n → ∀ k : Nat, endFrameLen n ≤ k ↔ (n : Int) - 1 ≤ 16 * (k : Int)) ∧
    (∀ k : Nat, endFrameLen n ≤ k ↔ max ((n : Int) - 1) 0 ≤ 16 * (k : Int))

/-- R78, R100: every encoding has 4 + 4N + E(N) bytes. -/
def Obligations.EncodingLength : Prop :=
  ∀ (cs : List Color) (b5 : Bright),
    (enc cs b5).length = 4 + 4 * cs.length + (cs.length + 14) / 16

/-- R74, R79, R101: LED i's frame stands at offset 4 + 4i, as header, blue, green, red. -/
def Obligations.LedFrameOffsets : Prop :=
  ∀ (cs : List Color) (b5 : Bright) (i : Nat) (c : Color), cs[i]? = some c →
    (enc cs b5)[4 + 4 * i + 1]? = some c.b ∧ (enc cs b5)[4 + 4 * i + 2]? = some c.g ∧
    (enc cs b5)[4 + 4 * i + 3]? = some c.r

/-- R75, R102: every header has 0b111 in bits 7:5 and the brightness in bits 4:0, and the first four
bytes are 0. -/
def Obligations.HeadersAndStartFrame : Prop :=
  ∀ (cs : List Color) (b5 : Bright),
    (∀ i, i < cs.length → ∃ h : Byte, (enc cs b5)[4 + 4 * i]? = some h ∧
      h &&& 0xE0 = 0xE0 ∧ h &&& 0x1F = b5.setWidth 8) ∧
    (enc cs b5).take 4 = [0x00, 0x00, 0x00, 0x00]

/-- R76, R79, R95: the bytes past the LED frames are E(N) zeros, and the encoding of no colours is
the start frame alone. -/
def Obligations.EndFrameIsZero : Prop :=
  (∀ (cs : List Color) (b5 : Bright),
    (enc cs b5).drop (4 + 4 * cs.length) = List.replicate ((cs.length + 14) / 16) 0x00) ∧
  (∀ b5 : Bright, enc [] b5 = [0x00, 0x00, 0x00, 0x00])

/-- R79, R80: a frame determines its colours, and its brightness if it has a LED. -/
def Obligations.FramesDetermineTheirColors : Prop :=
  ∀ (cs ds : List Color) (b5 d5 : Bright), enc cs b5 = enc ds d5 →
    cs = ds ∧ (cs ≠ [] → b5 = d5)

/-- R45: the mixed-width views of a per-LED frame and of the start frame. -/
def Obligations.MixedWidthViews : Prop :=
  (∀ (c : Color) (b5 : Bright),
    groupBigEndian (ledFrame c b5) =
      (header b5).toNat * 2 ^ 24 + c.b.toNat * 2 ^ 16 + c.g.toNat * 2 ^ 8 + c.r.toNat ∧
    groupLittleEndian (ledFrame c b5) =
      c.r.toNat * 2 ^ 24 + c.g.toNat * 2 ^ 16 + c.b.toNat * 2 ^ 8 + (header b5).toNat) ∧
  groupBigEndian startFrame = 0 ∧ groupLittleEndian startFrame = 0

/-- R96: ENCODE answers OK with the encoding of the buffer and BRIGHT, and changes LAST_STATUS alone;
it transmits nothing, whatever AUTOSHOW is. -/
def Obligations.EncodeAnswersTheFrame : Prop :=
  ∀ s : State, s.life = .lifeOpen →
    exec .encodeFrame s = .next
      { s with lastStatus := .ok,
               responses := s.responses ++ [⟨.ok, .bytes (enc s.color s.bright)⟩] }

/-- R97, R99, R116: SHOW writes the encoding of the buffer, whatever AUTOSHOW is; on err(e) it answers
(TRANSPORT_ERROR, e) and no state but LAST_STATUS and TXLOG changes. -/
def Obligations.ShowTransmitsTheFrame : Prop :=
  ∀ s : State, s.life = .lifeOpen →
    (∀ h, s.transport = .ok h →
      exec .showFrame s = .next
        { s with lastStatus := .ok,
                 txlog := s.txlog ++ [.wrote (enc s.color s.bright) .ok],
                 responses := s.responses ++ [⟨.ok, .empty⟩] }) ∧
    (∀ e, s.transport = .err e →
      exec .showFrame s = .next
        { s with lastStatus := .transportError,
                 txlog := s.txlog ++ [.wrote (enc s.color s.bright) (.err e)],
                 responses := s.responses ++ [⟨.transportError, .error e⟩] })

/-- R103, R50: over any run of GET, SET_AUTOSHOW, ENCODE and SHOW, under any answers of the transport,
the frame stays the same, and so an ENCODE after it answers the bytes an ENCODE before it would. -/
def Obligations.FramesRepeatWithoutMutation : Prop :=
  ∀ (run : List (Instr × TransportAnswer)) (s t : State), s.life = .lifeOpen →
    (∀ x ∈ run, keepsFrame x.1 = true) → runCommands run s = .next t →
    enc t.color t.bright = enc s.color s.bright ∧
    ∃ u, exec .encodeFrame t = .next u ∧
      u.responses = t.responses ++ [⟨.ok, .bytes (enc s.color s.bright)⟩]

/-- R33, R51, R140: a command adds to the bytes that reached the chain either nothing or one whole
frame, the encoding of the buffer after the command; a failing write adds nothing. -/
def Obligations.ChainReceivesWholeFrames : Prop :=
  ∀ (i : Instr) (s t : State), exec i s = .next t →
    chainBytes t.txlog = chainBytes s.txlog ∨
      ((∃ h, s.transport = .ok h) ∧
        chainBytes t.txlog = chainBytes s.txlog ++ enc t.color t.bright)

/-- R138, R28: two states that differ at most in AUTOSHOW and its traces go through any run of
commands with the same buffer and brightness, so the frame of a final SHOW is the same either way. A
run goes on past a refused command, which is the model's reading (log 11). -/
def Obligations.AutoshowDoesNotChangeTheBuffer : Prop :=
  ∀ (run : List (Instr × TransportAnswer)) (s s' t t' : State), SameBuffer s s' →
    runCommands run s = .next t → runCommands run s' = .next t' →
    SameBuffer t t' ∧ enc t.color t.bright = enc t'.color t'.bright

/-! ### Lifecycle and control -/

/-- R25: the clamp under both policies, for every integer, and R27's default of 30 under either. -/
def Obligations.ClampPolicies : Prop :=
  (∀ b : Int,
    (b ≤ 0 → clampWith .saturate b = 0 ∧ clampWith .literalExpr b = 31) ∧
    (31 ≤ b → clampWith .saturate b = 31 ∧ clampWith .literalExpr b = 0) ∧
    (0 < b → b < 31 → ((clampWith .saturate b).toNat : Int) = b ∧
      ((clampWith .literalExpr b).toNat : Int) = b)) ∧
  ∀ p : ClampPolicy, clampWith p 30 = 30

/-- R36, R104, R106: a successful NEW sets every field of the instance from the record, opens the
transport and transmits nothing. The brightness is clamped by the state's policy (R25). -/
def Obligations.NewBuildsTheInstance : Prop :=
  ∀ (s : State) (h : Handle), s.life ≠ .lifeOpen → s.transport = .ok h →
    1 ≤ s.cfgPort.ledCount → s.cfgPort.ledCount ≤ 65535 → 1 ≤ s.cfgPort.clockSpeedHz →
    ∃ n : Index, (n.toNat : Int) = s.cfgPort.ledCount ∧
      exec .newStrip s = .next
        { s with
          life := .lifeOpen
          ledCount := n
          color := List.replicate n.toNat ⟨0, 0, 0⟩
          bright := clampWith s.clampPolicy s.cfgPort.globalBrightness
          autoshow := s.cfgPort.autoshow
          clockHz := s.cfgPort.clockSpeedHz
          portId := s.cfgPort.portId
          chipSelect := s.cfgPort.chipSelect
          handle := some h
          lastStatus := .ok
          txlog := s.txlog ++
            [.opened s.cfgPort.portId s.cfgPort.chipSelect s.cfgPort.clockSpeedHz .ok]
          responses := s.responses ++ [⟨.ok, .empty⟩] }

/-- R114, R105, R117: an illegal record gives INVALID_CONFIG before any transport operation, whatever
the transport would answer, and leaves every field of the block unchanged. -/
def Obligations.NewRejectsIllegalRecords : Prop :=
  ∀ s : State, s.life ≠ .lifeOpen →
    (s.cfgPort.ledCount ≤ 0 ∨ 65535 < s.cfgPort.ledCount ∨ s.cfgPort.clockSpeedHz ≤ 0) →
    exec .newStrip s = .next
      { s with responses := s.responses ++ [⟨.invalidConfig, .empty⟩] }

/-- R104, R116, R117: when the open answers err(e) no instance is built; the event is logged and the
response is (TRANSPORT_ERROR, e). -/
def Obligations.NewFailsWithTheTransport : Prop :=
  ∀ (s : State) (e : ErrorValue), s.life ≠ .lifeOpen → s.transport = .err e →
    1 ≤ s.cfgPort.ledCount → s.cfgPort.ledCount ≤ 65535 → 1 ≤ s.cfgPort.clockSpeedHz →
    exec .newStrip s = .next
      { s with
        txlog := s.txlog ++
          [.opened s.cfgPort.portId s.cfgPort.chipSelect s.cfgPort.clockSpeedHz (.err e)]
        responses := s.responses ++ [⟨.transportError, .error e⟩] }

/-- R38: a successful NEW carries no value of an earlier instance over: two states that agree on the
inputs of NEW give the same instance. TXLOG and REFUSED persist. -/
def Obligations.NewCarriesNothingOver : Prop :=
  ∀ (s s' t t' : State), s.life ≠ .lifeOpen → s'.life ≠ .lifeOpen →
    s.cfgPort = s'.cfgPort → s.transport = s'.transport → s.clampPolicy = s'.clampPolicy →
    exec .newStrip s = .next t → exec .newStrip s' = .next t' → t.life = .lifeOpen →
    t'.life = .lifeOpen ∧ t'.ledCount = t.ledCount ∧ t'.color = t.color ∧ t'.bright = t.bright ∧
    t'.autoshow = t.autoshow ∧ t'.clockHz = t.clockHz ∧ t'.portId = t.portId ∧
    t'.chipSelect = t.chipSelect ∧ t'.handle = t.handle ∧ t'.lastStatus = t.lastStatus ∧
    (∃ ev, t.txlog = s.txlog ++ [ev]) ∧ t.refused = s.refused

/-- R108: SET_AUTOSHOW writes AUTOSHOW and LAST_STATUS, answers OK and transmits nothing. -/
def Obligations.SetAutoshowWritesTheFlag : Prop :=
  ∀ (f : Bool) (s : State), s.life = .lifeOpen →
    exec (.setAutoshow f) s = .next
      { s with autoshow := f, lastStatus := .ok,
               responses := s.responses ++ [⟨.ok, .empty⟩] }

/-- R109, R110, R117: CLOSE logs the close, drops HANDLE and moves to CLOSED whatever the transport
answers; its status is in the response alone. -/
def Obligations.CloseReleasesTheTransport : Prop :=
  ∀ s : State, s.life = .lifeOpen →
    (∀ h, s.transport = .ok h → ∃ t, exec .closeStrip s = .next t ∧
      t.txlog = s.txlog ++ [.closed .ok] ∧ t.responses = s.responses ++ [⟨.ok, .empty⟩] ∧
      t.life = .lifeClosed ∧ t.handle = none ∧ t.lastStatus = s.lastStatus ∧
      t.refused = s.refused ∧ t.requests = s.requests ∧ t.cfgPort = s.cfgPort ∧
      t.transport = s.transport ∧ t.clampPolicy = s.clampPolicy) ∧
    (∀ e, s.transport = .err e → ∃ t, exec .closeStrip s = .next t ∧
      t.txlog = s.txlog ++ [.closed (.err e)] ∧
      t.responses = s.responses ++ [⟨.transportError, .error e⟩] ∧
      t.life = .lifeClosed ∧ t.handle = none ∧ t.lastStatus = s.lastStatus ∧
      t.refused = s.refused ∧ t.requests = s.requests ∧ t.cfgPort = s.cfgPort ∧
      t.transport = s.transport ∧ t.clampPolicy = s.clampPolicy)

/-- R29 to R31: the block only hands PORT_ID, CHIP_SELECT, CLOCK_HZ and HANDLE to the transport: with
other values of them, every command but NEW and CLOSE, which write them, does the same. -/
def Obligations.AddressingIsNotInterpreted : Prop :=
  ∀ (i : Instr) (s t : State) (p : PortId) (q : ChipSelect) (k : Int) (h : Option Handle),
    i ≠ .newStrip → i ≠ .closeStrip → exec i s = .next t →
    exec i (withAddressing p q k h s) = .next (withAddressing p q k h t)
end

