-- ==== Sys2Proof/Laws/Encoding.lean ====
section
/-! SUPPORT. The bits of an encoded command, field by field (spec/30_encoding.md R59). -/

namespace Sys2Proof

/-- Bit `j` of a packed word is the bit of the field that holds it. -/
theorem packFields_getLsbD (op : BitVec 4) (ia ib : Index) (f : Bool) (c : Color) (j : Nat)
    (hj : j < 64) :
    (packFields op ia ib f c).getLsbD j =
      if j < 8 then c.b.getLsbD j
      else if j < 16 then c.g.getLsbD (j - 8)
      else if j < 24 then c.r.getLsbD (j - 16)
      else if j < 25 then f
      else if j < 28 then false
      else if j < 44 then ib.getLsbD (j - 28)
      else if j < 60 then ia.getLsbD (j - 44)
      else op.getLsbD (j - 60) := by
  unfold packFields
  refine BitVec.getLsbD_append.trans (ite_congr rfl (fun _ => rfl) fun h8 => ?_)
  refine BitVec.getLsbD_append.trans (ite_congr (by simp; omega) (fun _ => rfl) fun h16 => ?_)
  refine BitVec.getLsbD_append.trans
    (ite_congr (by simp; omega) (fun _ => by congr 1) fun h24 => ?_)
  refine BitVec.getLsbD_append.trans
    (ite_congr (by simp; omega) (fun _ => ?_) fun h25 => ?_)
  · have h : j - 8 - 8 - 8 = 0 := by omega
    simp [h]
  refine BitVec.getLsbD_append.trans
    (ite_congr (by simp; omega) (fun _ => by simp) fun h28 => ?_)
  refine BitVec.getLsbD_append.trans
    (ite_congr (by simp; omega) (fun _ => by congr 1) fun h44 => ?_)
  refine BitVec.getLsbD_append.trans
    (ite_congr (by simp; omega) (fun _ => by congr 1) fun h60 => ?_)
  congr 1

end Sys2Proof
end

