-- ==== Sys2Proof/Laws/Frame.lean ====
section
/-! SUPPORT. The small lemmas of the wire format: the length and the head of each part. -/

namespace Sys2Proof.Machine

@[simp] theorem startFrame_length : startFrame.length = 4 := rfl

@[simp] theorem ledFrame_length (c : Color) (b5 : Bright) : (ledFrame c b5).length = 4 := rfl

@[simp] theorem endFrame_length (n : Nat) : (endFrame n).length = endFrameLen n := by
  simp [endFrame]

/-- The LED frames of a list of colours, one after another. -/
theorem ledFrames_length (cs : List Color) (b5 : Bright) :
    (cs.flatMap (fun x => ledFrame x b5)).length = 4 * cs.length := by
  induction cs with
  | nil => rfl
  | cons x xs ih => rw [List.flatMap_cons, List.length_append, ih, List.length_cons,
      ledFrame_length]; omega

/-- The byte `k` of the LED frame `i` stands at `4 * i + k` of the LED frames. -/
theorem ledFrames_getElem? (cs : List Color) (b5 : Bright) (i k : Nat) (hk : k < 4) :
    (cs.flatMap (fun x => ledFrame x b5))[4 * i + k]? =
      cs[i]?.bind (fun x => (ledFrame x b5)[k]?) := by
  induction cs generalizing i with
  | nil => simp
  | cons x xs ih =>
    rw [List.flatMap_cons]
    cases i with
    | zero =>
      rw [List.getElem?_append_left (by rw [ledFrame_length]; omega)]
      simp
    | succ j =>
      rw [List.getElem?_append_right (by rw [ledFrame_length]; omega), ledFrame_length]
      have h : 4 * (j + 1) + k - 4 = 4 * j + k := by omega
      rw [h, ih j]
      simp

/-- A byte of ENC past the start frame and before the end frame is a byte of the LED frames. -/
theorem enc_getElem?_led (cs : List Color) (b5 : Bright) (j : Nat) (h : j < 4 * cs.length) :
    (enc cs b5)[4 + j]? = (cs.flatMap (fun x => ledFrame x b5))[j]? := by
  unfold enc
  rw [List.append_assoc, List.getElem?_append_right (by rw [startFrame_length]; omega),
    startFrame_length, List.getElem?_append_left (by rw [ledFrames_length]; omega)]
  congr 1
  omega

end Sys2Proof.Machine
end

