-- ==== Sys2Proof/Laws/State.lean ====
section
/-! SUPPORT. One lemma for each field of State and each update of it, true by rfl, so that no proof
unfolds a record update. -/

namespace Sys2Proof.Machine

variable (s : State)

/-! ### `setStatus` -/

@[simp] theorem setStatus_life (st : Status) : (setStatus st s).life = s.life := rfl
@[simp] theorem setStatus_ledCount (st : Status) : (setStatus st s).ledCount = s.ledCount := rfl
@[simp] theorem setStatus_color (st : Status) : (setStatus st s).color = s.color := rfl
@[simp] theorem setStatus_bright (st : Status) : (setStatus st s).bright = s.bright := rfl
@[simp] theorem setStatus_autoshow (st : Status) : (setStatus st s).autoshow = s.autoshow := rfl
@[simp] theorem setStatus_clockHz (st : Status) : (setStatus st s).clockHz = s.clockHz := rfl
@[simp] theorem setStatus_portId (st : Status) : (setStatus st s).portId = s.portId := rfl
@[simp] theorem setStatus_chipSelect (st : Status) :
    (setStatus st s).chipSelect = s.chipSelect := rfl
@[simp] theorem setStatus_handle (st : Status) : (setStatus st s).handle = s.handle := rfl
@[simp] theorem setStatus_lastStatus (st : Status) : (setStatus st s).lastStatus = st := rfl
@[simp] theorem setStatus_txlog (st : Status) : (setStatus st s).txlog = s.txlog := rfl
@[simp] theorem setStatus_refused (st : Status) : (setStatus st s).refused = s.refused := rfl
@[simp] theorem setStatus_responses (st : Status) : (setStatus st s).responses = s.responses := rfl
@[simp] theorem setStatus_requests (st : Status) : (setStatus st s).requests = s.requests := rfl
@[simp] theorem setStatus_cfgPort (st : Status) : (setStatus st s).cfgPort = s.cfgPort := rfl
@[simp] theorem setStatus_transport (st : Status) : (setStatus st s).transport = s.transport := rfl
@[simp] theorem setStatus_clampPolicy (st : Status) :
    (setStatus st s).clampPolicy = s.clampPolicy := rfl

/-! ### `respond` -/

@[simp] theorem respond_life (st : Status) (d : Data) : (respond st d s).life = s.life := rfl
@[simp] theorem respond_ledCount (st : Status) (d : Data) :
    (respond st d s).ledCount = s.ledCount := rfl
@[simp] theorem respond_color (st : Status) (d : Data) : (respond st d s).color = s.color := rfl
@[simp] theorem respond_bright (st : Status) (d : Data) : (respond st d s).bright = s.bright := rfl
@[simp] theorem respond_autoshow (st : Status) (d : Data) :
    (respond st d s).autoshow = s.autoshow := rfl
@[simp] theorem respond_clockHz (st : Status) (d : Data) :
    (respond st d s).clockHz = s.clockHz := rfl
@[simp] theorem respond_portId (st : Status) (d : Data) : (respond st d s).portId = s.portId := rfl
@[simp] theorem respond_chipSelect (st : Status) (d : Data) :
    (respond st d s).chipSelect = s.chipSelect := rfl
@[simp] theorem respond_handle (st : Status) (d : Data) : (respond st d s).handle = s.handle := rfl
@[simp] theorem respond_lastStatus (st : Status) (d : Data) :
    (respond st d s).lastStatus = s.lastStatus := rfl
@[simp] theorem respond_txlog (st : Status) (d : Data) : (respond st d s).txlog = s.txlog := rfl
@[simp] theorem respond_refused (st : Status) (d : Data) :
    (respond st d s).refused = s.refused := rfl
@[simp] theorem respond_responses (st : Status) (d : Data) :
    (respond st d s).responses = s.responses ++ [⟨st, d⟩] := rfl
@[simp] theorem respond_requests (st : Status) (d : Data) :
    (respond st d s).requests = s.requests := rfl
@[simp] theorem respond_cfgPort (st : Status) (d : Data) :
    (respond st d s).cfgPort = s.cfgPort := rfl
@[simp] theorem respond_transport (st : Status) (d : Data) :
    (respond st d s).transport = s.transport := rfl
@[simp] theorem respond_clampPolicy (st : Status) (d : Data) :
    (respond st d s).clampPolicy = s.clampPolicy := rfl

/-! ### `refuse` -/

@[simp] theorem refuse_life (why : RefuseReason) : (refuse why s).life = s.life := rfl
@[simp] theorem refuse_ledCount (why : RefuseReason) : (refuse why s).ledCount = s.ledCount := rfl
@[simp] theorem refuse_color (why : RefuseReason) : (refuse why s).color = s.color := rfl
@[simp] theorem refuse_bright (why : RefuseReason) : (refuse why s).bright = s.bright := rfl
@[simp] theorem refuse_autoshow (why : RefuseReason) : (refuse why s).autoshow = s.autoshow := rfl
@[simp] theorem refuse_clockHz (why : RefuseReason) : (refuse why s).clockHz = s.clockHz := rfl
@[simp] theorem refuse_portId (why : RefuseReason) : (refuse why s).portId = s.portId := rfl
@[simp] theorem refuse_chipSelect (why : RefuseReason) :
    (refuse why s).chipSelect = s.chipSelect := rfl
@[simp] theorem refuse_handle (why : RefuseReason) : (refuse why s).handle = s.handle := rfl
@[simp] theorem refuse_lastStatus (why : RefuseReason) :
    (refuse why s).lastStatus = s.lastStatus := rfl
@[simp] theorem refuse_txlog (why : RefuseReason) : (refuse why s).txlog = s.txlog := rfl
@[simp] theorem refuse_refused (why : RefuseReason) : (refuse why s).refused = true := rfl
@[simp] theorem refuse_responses (why : RefuseReason) :
    (refuse why s).responses = s.responses := rfl
@[simp] theorem refuse_requests (why : RefuseReason) : (refuse why s).requests = s.requests := rfl
@[simp] theorem refuse_cfgPort (why : RefuseReason) : (refuse why s).cfgPort = s.cfgPort := rfl
@[simp] theorem refuse_transport (why : RefuseReason) :
    (refuse why s).transport = s.transport := rfl
@[simp] theorem refuse_clampPolicy (why : RefuseReason) :
    (refuse why s).clampPolicy = s.clampPolicy := rfl

/-! ### `writeSlot` -/

@[simp] theorem writeSlot_life (i : Index) (c : Color) : (writeSlot i c s).life = s.life := rfl
@[simp] theorem writeSlot_ledCount (i : Index) (c : Color) :
    (writeSlot i c s).ledCount = s.ledCount := rfl
@[simp] theorem writeSlot_color (i : Index) (c : Color) :
    (writeSlot i c s).color = s.color.set i.toNat c := rfl
@[simp] theorem writeSlot_bright (i : Index) (c : Color) :
    (writeSlot i c s).bright = s.bright := rfl
@[simp] theorem writeSlot_autoshow (i : Index) (c : Color) :
    (writeSlot i c s).autoshow = s.autoshow := rfl
@[simp] theorem writeSlot_clockHz (i : Index) (c : Color) :
    (writeSlot i c s).clockHz = s.clockHz := rfl
@[simp] theorem writeSlot_portId (i : Index) (c : Color) :
    (writeSlot i c s).portId = s.portId := rfl
@[simp] theorem writeSlot_chipSelect (i : Index) (c : Color) :
    (writeSlot i c s).chipSelect = s.chipSelect := rfl
@[simp] theorem writeSlot_handle (i : Index) (c : Color) :
    (writeSlot i c s).handle = s.handle := rfl
@[simp] theorem writeSlot_lastStatus (i : Index) (c : Color) :
    (writeSlot i c s).lastStatus = s.lastStatus := rfl
@[simp] theorem writeSlot_txlog (i : Index) (c : Color) : (writeSlot i c s).txlog = s.txlog := rfl
@[simp] theorem writeSlot_refused (i : Index) (c : Color) :
    (writeSlot i c s).refused = s.refused := rfl
@[simp] theorem writeSlot_responses (i : Index) (c : Color) :
    (writeSlot i c s).responses = s.responses := rfl
@[simp] theorem writeSlot_requests (i : Index) (c : Color) :
    (writeSlot i c s).requests = s.requests := rfl
@[simp] theorem writeSlot_cfgPort (i : Index) (c : Color) :
    (writeSlot i c s).cfgPort = s.cfgPort := rfl
@[simp] theorem writeSlot_transport (i : Index) (c : Color) :
    (writeSlot i c s).transport = s.transport := rfl
@[simp] theorem writeSlot_clampPolicy (i : Index) (c : Color) :
    (writeSlot i c s).clampPolicy = s.clampPolicy := rfl

/-! ### `writeRange` -/

@[simp] theorem writeRange_life (lo hi : Nat) (c : Color) :
    (writeRange lo hi c s).life = s.life := rfl
@[simp] theorem writeRange_ledCount (lo hi : Nat) (c : Color) :
    (writeRange lo hi c s).ledCount = s.ledCount := rfl
@[simp] theorem writeRange_color (lo hi : Nat) (c : Color) :
    (writeRange lo hi c s).color = fillSlots lo hi c s.color := rfl
@[simp] theorem writeRange_bright (lo hi : Nat) (c : Color) :
    (writeRange lo hi c s).bright = s.bright := rfl
@[simp] theorem writeRange_autoshow (lo hi : Nat) (c : Color) :
    (writeRange lo hi c s).autoshow = s.autoshow := rfl
@[simp] theorem writeRange_clockHz (lo hi : Nat) (c : Color) :
    (writeRange lo hi c s).clockHz = s.clockHz := rfl
@[simp] theorem writeRange_portId (lo hi : Nat) (c : Color) :
    (writeRange lo hi c s).portId = s.portId := rfl
@[simp] theorem writeRange_chipSelect (lo hi : Nat) (c : Color) :
    (writeRange lo hi c s).chipSelect = s.chipSelect := rfl
@[simp] theorem writeRange_handle (lo hi : Nat) (c : Color) :
    (writeRange lo hi c s).handle = s.handle := rfl
@[simp] theorem writeRange_lastStatus (lo hi : Nat) (c : Color) :
    (writeRange lo hi c s).lastStatus = s.lastStatus := rfl
@[simp] theorem writeRange_txlog (lo hi : Nat) (c : Color) :
    (writeRange lo hi c s).txlog = s.txlog := rfl
@[simp] theorem writeRange_refused (lo hi : Nat) (c : Color) :
    (writeRange lo hi c s).refused = s.refused := rfl
@[simp] theorem writeRange_responses (lo hi : Nat) (c : Color) :
    (writeRange lo hi c s).responses = s.responses := rfl
@[simp] theorem writeRange_requests (lo hi : Nat) (c : Color) :
    (writeRange lo hi c s).requests = s.requests := rfl
@[simp] theorem writeRange_cfgPort (lo hi : Nat) (c : Color) :
    (writeRange lo hi c s).cfgPort = s.cfgPort := rfl
@[simp] theorem writeRange_transport (lo hi : Nat) (c : Color) :
    (writeRange lo hi c s).transport = s.transport := rfl
@[simp] theorem writeRange_clampPolicy (lo hi : Nat) (c : Color) :
    (writeRange lo hi c s).clampPolicy = s.clampPolicy := rfl

/-! ### `logEvent` -/

@[simp] theorem logEvent_life (ev : TxEvent) : (logEvent ev s).life = s.life := rfl
@[simp] theorem logEvent_ledCount (ev : TxEvent) : (logEvent ev s).ledCount = s.ledCount := rfl
@[simp] theorem logEvent_color (ev : TxEvent) : (logEvent ev s).color = s.color := rfl
@[simp] theorem logEvent_bright (ev : TxEvent) : (logEvent ev s).bright = s.bright := rfl
@[simp] theorem logEvent_autoshow (ev : TxEvent) : (logEvent ev s).autoshow = s.autoshow := rfl
@[simp] theorem logEvent_clockHz (ev : TxEvent) : (logEvent ev s).clockHz = s.clockHz := rfl
@[simp] theorem logEvent_portId (ev : TxEvent) : (logEvent ev s).portId = s.portId := rfl
@[simp] theorem logEvent_chipSelect (ev : TxEvent) :
    (logEvent ev s).chipSelect = s.chipSelect := rfl
@[simp] theorem logEvent_handle (ev : TxEvent) : (logEvent ev s).handle = s.handle := rfl
@[simp] theorem logEvent_lastStatus (ev : TxEvent) :
    (logEvent ev s).lastStatus = s.lastStatus := rfl
@[simp] theorem logEvent_txlog (ev : TxEvent) : (logEvent ev s).txlog = s.txlog ++ [ev] := rfl
@[simp] theorem logEvent_refused (ev : TxEvent) : (logEvent ev s).refused = s.refused := rfl
@[simp] theorem logEvent_responses (ev : TxEvent) : (logEvent ev s).responses = s.responses := rfl
@[simp] theorem logEvent_requests (ev : TxEvent) : (logEvent ev s).requests = s.requests := rfl
@[simp] theorem logEvent_cfgPort (ev : TxEvent) : (logEvent ev s).cfgPort = s.cfgPort := rfl
@[simp] theorem logEvent_transport (ev : TxEvent) : (logEvent ev s).transport = s.transport := rfl
@[simp] theorem logEvent_clampPolicy (ev : TxEvent) :
    (logEvent ev s).clampPolicy = s.clampPolicy := rfl

/-! ### `buildInstance` -/

@[simp] theorem buildInstance_life (cfg : ConfigRecord) (h : Handle) :
    (buildInstance cfg h s).life = .lifeOpen := rfl
@[simp] theorem buildInstance_ledCount (cfg : ConfigRecord) (h : Handle) :
    (buildInstance cfg h s).ledCount = BitVec.ofInt 16 cfg.ledCount := rfl
@[simp] theorem buildInstance_color (cfg : ConfigRecord) (h : Handle) :
    (buildInstance cfg h s).color = List.replicate cfg.ledCount.toNat black := rfl
@[simp] theorem buildInstance_bright (cfg : ConfigRecord) (h : Handle) :
    (buildInstance cfg h s).bright = clampWith s.clampPolicy cfg.globalBrightness := rfl
@[simp] theorem buildInstance_autoshow (cfg : ConfigRecord) (h : Handle) :
    (buildInstance cfg h s).autoshow = cfg.autoshow := rfl
@[simp] theorem buildInstance_clockHz (cfg : ConfigRecord) (h : Handle) :
    (buildInstance cfg h s).clockHz = cfg.clockSpeedHz := rfl
@[simp] theorem buildInstance_portId (cfg : ConfigRecord) (h : Handle) :
    (buildInstance cfg h s).portId = cfg.portId := rfl
@[simp] theorem buildInstance_chipSelect (cfg : ConfigRecord) (h : Handle) :
    (buildInstance cfg h s).chipSelect = cfg.chipSelect := rfl
@[simp] theorem buildInstance_handle (cfg : ConfigRecord) (h : Handle) :
    (buildInstance cfg h s).handle = some h := rfl
@[simp] theorem buildInstance_lastStatus (cfg : ConfigRecord) (h : Handle) :
    (buildInstance cfg h s).lastStatus = .ok := rfl
@[simp] theorem buildInstance_txlog (cfg : ConfigRecord) (h : Handle) :
    (buildInstance cfg h s).txlog = s.txlog := rfl
@[simp] theorem buildInstance_refused (cfg : ConfigRecord) (h : Handle) :
    (buildInstance cfg h s).refused = s.refused := rfl
@[simp] theorem buildInstance_responses (cfg : ConfigRecord) (h : Handle) :
    (buildInstance cfg h s).responses = s.responses := rfl
@[simp] theorem buildInstance_requests (cfg : ConfigRecord) (h : Handle) :
    (buildInstance cfg h s).requests = s.requests := rfl
@[simp] theorem buildInstance_cfgPort (cfg : ConfigRecord) (h : Handle) :
    (buildInstance cfg h s).cfgPort = s.cfgPort := rfl
@[simp] theorem buildInstance_transport (cfg : ConfigRecord) (h : Handle) :
    (buildInstance cfg h s).transport = s.transport := rfl
@[simp] theorem buildInstance_clampPolicy (cfg : ConfigRecord) (h : Handle) :
    (buildInstance cfg h s).clampPolicy = s.clampPolicy := rfl

/-! ### `discardInstance` -/

@[simp] theorem discardInstance_life : (discardInstance s).life = .lifeClosed := rfl
@[simp] theorem discardInstance_ledCount : (discardInstance s).ledCount = 0 := rfl
@[simp] theorem discardInstance_color : (discardInstance s).color = [] := rfl
@[simp] theorem discardInstance_bright : (discardInstance s).bright = 0 := rfl
@[simp] theorem discardInstance_autoshow : (discardInstance s).autoshow = false := rfl
@[simp] theorem discardInstance_clockHz : (discardInstance s).clockHz = 0 := rfl
@[simp] theorem discardInstance_portId : (discardInstance s).portId = 0 := rfl
@[simp] theorem discardInstance_chipSelect : (discardInstance s).chipSelect = 0 := rfl
@[simp] theorem discardInstance_handle : (discardInstance s).handle = none := rfl
@[simp] theorem discardInstance_lastStatus : (discardInstance s).lastStatus = s.lastStatus := rfl
@[simp] theorem discardInstance_txlog : (discardInstance s).txlog = s.txlog := rfl
@[simp] theorem discardInstance_refused : (discardInstance s).refused = s.refused := rfl
@[simp] theorem discardInstance_responses : (discardInstance s).responses = s.responses := rfl
@[simp] theorem discardInstance_requests : (discardInstance s).requests = s.requests := rfl
@[simp] theorem discardInstance_cfgPort : (discardInstance s).cfgPort = s.cfgPort := rfl
@[simp] theorem discardInstance_transport : (discardInstance s).transport = s.transport := rfl
@[simp] theorem discardInstance_clampPolicy : (discardInstance s).clampPolicy = s.clampPolicy := rfl

/-! ### `takeRequest` -/

@[simp] theorem takeRequest_life (r : Request) : (takeRequest r s).life = s.life := rfl
@[simp] theorem takeRequest_ledCount (r : Request) : (takeRequest r s).ledCount = s.ledCount := rfl
@[simp] theorem takeRequest_color (r : Request) : (takeRequest r s).color = s.color := rfl
@[simp] theorem takeRequest_bright (r : Request) : (takeRequest r s).bright = s.bright := rfl
@[simp] theorem takeRequest_autoshow (r : Request) : (takeRequest r s).autoshow = s.autoshow := rfl
@[simp] theorem takeRequest_clockHz (r : Request) : (takeRequest r s).clockHz = s.clockHz := rfl
@[simp] theorem takeRequest_portId (r : Request) : (takeRequest r s).portId = s.portId := rfl
@[simp] theorem takeRequest_chipSelect (r : Request) :
    (takeRequest r s).chipSelect = s.chipSelect := rfl
@[simp] theorem takeRequest_handle (r : Request) : (takeRequest r s).handle = s.handle := rfl
@[simp] theorem takeRequest_lastStatus (r : Request) :
    (takeRequest r s).lastStatus = s.lastStatus := rfl
@[simp] theorem takeRequest_txlog (r : Request) : (takeRequest r s).txlog = s.txlog := rfl
@[simp] theorem takeRequest_refused (r : Request) : (takeRequest r s).refused = s.refused := rfl
@[simp] theorem takeRequest_responses (r : Request) :
    (takeRequest r s).responses = s.responses := rfl
@[simp] theorem takeRequest_requests (r : Request) :
    (takeRequest r s).requests = s.requests.tail := rfl
@[simp] theorem takeRequest_cfgPort (r : Request) : (takeRequest r s).cfgPort = r.cfg := rfl
@[simp] theorem takeRequest_transport (r : Request) : (takeRequest r s).transport = r.answer := rfl
@[simp] theorem takeRequest_clampPolicy (r : Request) :
    (takeRequest r s).clampPolicy = s.clampPolicy := rfl

/-! ### `complete` -/

@[simp] theorem complete_life (d : Data) : (complete d s).life = s.life := rfl
@[simp] theorem complete_ledCount (d : Data) : (complete d s).ledCount = s.ledCount := rfl
@[simp] theorem complete_color (d : Data) : (complete d s).color = s.color := rfl
@[simp] theorem complete_bright (d : Data) : (complete d s).bright = s.bright := rfl
@[simp] theorem complete_autoshow (d : Data) : (complete d s).autoshow = s.autoshow := rfl
@[simp] theorem complete_clockHz (d : Data) : (complete d s).clockHz = s.clockHz := rfl
@[simp] theorem complete_portId (d : Data) : (complete d s).portId = s.portId := rfl
@[simp] theorem complete_chipSelect (d : Data) : (complete d s).chipSelect = s.chipSelect := rfl
@[simp] theorem complete_handle (d : Data) : (complete d s).handle = s.handle := rfl
@[simp] theorem complete_lastStatus (d : Data) : (complete d s).lastStatus = .ok := rfl
@[simp] theorem complete_txlog (d : Data) : (complete d s).txlog = s.txlog := rfl
@[simp] theorem complete_refused (d : Data) : (complete d s).refused = s.refused := rfl
@[simp] theorem complete_responses (d : Data) :
    (complete d s).responses = s.responses ++ [⟨.ok, d⟩] := rfl
@[simp] theorem complete_requests (d : Data) : (complete d s).requests = s.requests := rfl
@[simp] theorem complete_cfgPort (d : Data) : (complete d s).cfgPort = s.cfgPort := rfl
@[simp] theorem complete_transport (d : Data) : (complete d s).transport = s.transport := rfl
@[simp] theorem complete_clampPolicy (d : Data) : (complete d s).clampPolicy = s.clampPolicy := rfl

/-! ### `recordStatus` and `raise`

An error keeps every field but LAST_STATUS and the responses. -/

@[simp] theorem recordStatus_life (st : Status) : (recordStatus st s).life = s.life := by
  unfold recordStatus; split <;> rfl
@[simp] theorem recordStatus_ledCount (st : Status) : (recordStatus st s).ledCount = s.ledCount := by
  unfold recordStatus; split <;> rfl
@[simp] theorem recordStatus_color (st : Status) : (recordStatus st s).color = s.color := by
  unfold recordStatus; split <;> rfl
@[simp] theorem recordStatus_bright (st : Status) : (recordStatus st s).bright = s.bright := by
  unfold recordStatus; split <;> rfl
@[simp] theorem recordStatus_autoshow (st : Status) : (recordStatus st s).autoshow = s.autoshow := by
  unfold recordStatus; split <;> rfl
@[simp] theorem recordStatus_clockHz (st : Status) : (recordStatus st s).clockHz = s.clockHz := by
  unfold recordStatus; split <;> rfl
@[simp] theorem recordStatus_portId (st : Status) : (recordStatus st s).portId = s.portId := by
  unfold recordStatus; split <;> rfl
@[simp] theorem recordStatus_chipSelect (st : Status) : (recordStatus st s).chipSelect = s.chipSelect := by
  unfold recordStatus; split <;> rfl
@[simp] theorem recordStatus_handle (st : Status) : (recordStatus st s).handle = s.handle := by
  unfold recordStatus; split <;> rfl
@[simp] theorem recordStatus_txlog (st : Status) : (recordStatus st s).txlog = s.txlog := by
  unfold recordStatus; split <;> rfl
@[simp] theorem recordStatus_refused (st : Status) : (recordStatus st s).refused = s.refused := by
  unfold recordStatus; split <;> rfl
@[simp] theorem recordStatus_responses (st : Status) : (recordStatus st s).responses = s.responses := by
  unfold recordStatus; split <;> rfl
@[simp] theorem recordStatus_requests (st : Status) : (recordStatus st s).requests = s.requests := by
  unfold recordStatus; split <;> rfl
@[simp] theorem recordStatus_cfgPort (st : Status) : (recordStatus st s).cfgPort = s.cfgPort := by
  unfold recordStatus; split <;> rfl
@[simp] theorem recordStatus_transport (st : Status) : (recordStatus st s).transport = s.transport := by
  unfold recordStatus; split <;> rfl
@[simp] theorem recordStatus_clampPolicy (st : Status) : (recordStatus st s).clampPolicy = s.clampPolicy := by
  unfold recordStatus; split <;> rfl

theorem recordStatus_lastStatus (st : Status) :
    (recordStatus st s).lastStatus = if s.life = .lifeOpen then st else s.lastStatus := by
  unfold recordStatus; split <;> rfl

@[simp] theorem raise_life (e : CommandError) : (raise e s).life = s.life := by
  simp [raise]
@[simp] theorem raise_ledCount (e : CommandError) : (raise e s).ledCount = s.ledCount := by
  simp [raise]
@[simp] theorem raise_color (e : CommandError) : (raise e s).color = s.color := by
  simp [raise]
@[simp] theorem raise_bright (e : CommandError) : (raise e s).bright = s.bright := by
  simp [raise]
@[simp] theorem raise_autoshow (e : CommandError) : (raise e s).autoshow = s.autoshow := by
  simp [raise]
@[simp] theorem raise_clockHz (e : CommandError) : (raise e s).clockHz = s.clockHz := by
  simp [raise]
@[simp] theorem raise_portId (e : CommandError) : (raise e s).portId = s.portId := by
  simp [raise]
@[simp] theorem raise_chipSelect (e : CommandError) : (raise e s).chipSelect = s.chipSelect := by
  simp [raise]
@[simp] theorem raise_handle (e : CommandError) : (raise e s).handle = s.handle := by
  simp [raise]
@[simp] theorem raise_txlog (e : CommandError) : (raise e s).txlog = s.txlog := by
  simp [raise]
@[simp] theorem raise_refused (e : CommandError) : (raise e s).refused = s.refused := by
  simp [raise]
@[simp] theorem raise_responses (e : CommandError) :
    (raise e s).responses = s.responses ++ [⟨e.status, e.data⟩] := by simp [raise]
@[simp] theorem raise_requests (e : CommandError) : (raise e s).requests = s.requests := by
  simp [raise]
@[simp] theorem raise_cfgPort (e : CommandError) : (raise e s).cfgPort = s.cfgPort := by
  simp [raise]
@[simp] theorem raise_transport (e : CommandError) : (raise e s).transport = s.transport := by
  simp [raise]
@[simp] theorem raise_clampPolicy (e : CommandError) : (raise e s).clampPolicy = s.clampPolicy := by
  simp [raise]

theorem raise_lastStatus (e : CommandError) :
    (raise e s).lastStatus = if s.life = .lifeOpen then e.status else s.lastStatus := by
  simp [raise, recordStatus_lastStatus]

/-! ### `idle` -/

@[simp] theorem idle_eq : idle s = s := rfl

end Sys2Proof.Machine
end

