-- ==== Sys2Proof/Laws/Ops.lean ====
section
/-! SUPPORT. One lemma for each shared operation, saying once what it does. -/

namespace Sys2Proof.Machine

/-! ### Responses and errors -/

theorem complete_eq (d : Data) (s : State) :
    complete d s = { s with lastStatus := .ok, responses := s.responses ++ [⟨.ok, d⟩] } := rfl

theorem raise_open (e : CommandError) (s : State) (h : s.life = .lifeOpen) :
    raise e s =
      { s with lastStatus := e.status, responses := s.responses ++ [⟨e.status, e.data⟩] } := by
  simp [raise, recordStatus, h, setStatus, respond]

theorem raise_not_open (e : CommandError) (s : State) (h : s.life ≠ .lifeOpen) :
    raise e s = { s with responses := s.responses ++ [⟨e.status, e.data⟩] } := by
  simp [raise, recordStatus, h, respond]

/-- Whatever LIFE is, an error adds one response and may write LAST_STATUS: nothing else. -/
theorem raise_eq (e : CommandError) (s : State) :
    ∃ st, raise e s =
      { s with lastStatus := st, responses := s.responses ++ [⟨e.status, e.data⟩] } ∧
      (s.life = .lifeOpen → st = e.status) ∧ (s.life ≠ .lifeOpen → st = s.lastStatus) := by
  by_cases h : s.life = .lifeOpen
  · exact ⟨e.status, raise_open e s h, fun _ => rfl, fun h' => absurd h h'⟩
  · exact ⟨s.lastStatus, raise_not_open e s h, fun h' => absurd h' h, fun _ => rfl⟩

theorem refuse_eq (why : RefuseReason) (s : State) :
    refuse why s = { s with refused := true } := rfl

theorem whenOpen_open (s : State) (body : Result) (h : s.life = .lifeOpen) :
    whenOpen s body = body := by simp [whenOpen, h]

theorem whenOpen_not_open (s : State) (body : Result) (h : s.life ≠ .lifeOpen) :
    whenOpen s body = .next (refuse .notOpen s) := by simp [whenOpen, h]

/-- A command that requires an open instance answers `t` by its body, or by a refusal. -/
theorem whenOpen_next {s t : State} {body : Result} (h : whenOpen s body = .next t) :
    (s.life = .lifeOpen ∧ body = .next t) ∨
      (s.life ≠ .lifeOpen ∧ t = refuse .notOpen s) := by
  by_cases ho : s.life = .lifeOpen
  · exact .inl ⟨ho, by rwa [whenOpen_open s body ho] at h⟩
  · rw [whenOpen_not_open s body ho] at h
    exact .inr ⟨ho, (Host.Outcome.next.inj h).symm⟩

/-! ### The colour buffer -/

@[simp] theorem fillSlots_length (lo hi : Nat) (c : Color) (l : List Color) :
    (fillSlots lo hi c l).length = l.length := by simp [fillSlots]

theorem fillSlots_getElem? (lo hi : Nat) (c : Color) (l : List Color) (k : Nat) :
    (fillSlots lo hi c l)[k]? =
      if lo ≤ k ∧ k < hi then l[k]?.map (fun _ => c) else l[k]? := by
  simp only [fillSlots, List.getElem?_mapIdx]
  split
  · rfl
  · cases l[k]? <;> rfl

theorem writeSlot_length (i : Index) (c : Color) (s : State) :
    (writeSlot i c s).color.length = s.color.length := by simp

theorem writeRange_length (lo hi : Nat) (c : Color) (s : State) :
    (writeRange lo hi c s).color.length = s.color.length := by simp

theorem readSlot_eq (i : Index) (s : State) (c : Color) (h : s.color[i.toNat]? = some c) :
    readSlot i s = c := by simp [readSlot, h]

theorem rangeClamp_fst (start stop n : Nat) : (rangeClamp start stop n).1 = min start n := by
  simp only [rangeClamp]
  split <;> rfl

theorem rangeClamp_snd (start stop n : Nat) :
    (rangeClamp start stop n).2 = max (min start n) (min stop n) := by
  simp only [rangeClamp]
  split <;> simp only <;> omega

/-! ### The record of NEW -/

theorem configError_none (cfg : ConfigRecord) : configError cfg = none ↔ cfg.wellFormed = true := by
  simp only [configError, ConfigRecord.wellFormed, Bool.and_eq_true, decide_eq_true_eq]
  split
  · simp_all
  · split <;> simp_all

/-! ### The transport -/

/-- What Flush can do: one write of the current frame, by the transport's answer. -/
theorem flush_next {s t : State} (h : flush s = .next t) :
    (∃ hd, s.transport = .ok hd ∧
      t = complete .empty (logEvent (.wrote (currentFrame s) .ok) s)) ∨
    (∃ e, s.transport = .err e ∧
      t = raise (.transportError e) (logEvent (.wrote (currentFrame s) (.err e)) s)) := by
  unfold flush at h
  split at h
  · exact .inl ⟨_, by assumption, (Host.Outcome.next.inj h).symm⟩
  · exact .inr ⟨_, by assumption, (Host.Outcome.next.inj h).symm⟩
  · cases h

/-- What the autoshow tail can do. -/
theorem autoshowTail_next {s t : State} (h : autoshowTail s = .next t) :
    (s.autoshow = true ∧ flush s = .next t) ∨ (s.autoshow = false ∧ t = complete .empty s) := by
  unfold autoshowTail at h
  split at h
  · exact .inl ⟨by assumption, h⟩
  · exact .inr ⟨by simp_all, (Host.Outcome.next.inj h).symm⟩

/-- What NEW's open can do. -/
theorem openAndBuild_next {cfg : ConfigRecord} {s t : State} (h : openAndBuild cfg s = .next t) :
    (∃ hd, s.transport = .ok hd ∧ t = respond .ok .empty (buildInstance cfg hd
      (logEvent (.opened cfg.portId cfg.chipSelect cfg.clockSpeedHz .ok) s))) ∨
    (∃ e, s.transport = .err e ∧ t = raise (.transportError e)
      (logEvent (.opened cfg.portId cfg.chipSelect cfg.clockSpeedHz (.err e)) s)) := by
  unfold openAndBuild at h
  split at h
  · exact .inl ⟨_, by assumption, (Host.Outcome.next.inj h).symm⟩
  · exact .inr ⟨_, by assumption, (Host.Outcome.next.inj h).symm⟩
  · cases h

/-! ### The meanings -/

/-- What NEW can do: a refusal while open, a rejected record, or the open. -/
theorem execNew_next {s t : State} (h : execNew s = .next t) :
    (s.life = .lifeOpen ∧ t = refuse .alreadyOpen s) ∨
    (s.life ≠ .lifeOpen ∧ ∃ f, configError s.cfgPort = some f ∧
      t = raise (.invalidConfig f) s) ∨
    (s.life ≠ .lifeOpen ∧ configError s.cfgPort = none ∧
      openAndBuild s.cfgPort s = .next t) := by
  unfold execNew at h
  split at h
  · exact .inl ⟨by assumption, (Host.Outcome.next.inj h).symm⟩
  · split at h
    · exact .inr (.inl ⟨by assumption, _, by assumption, (Host.Outcome.next.inj h).symm⟩)
    · exact .inr (.inr ⟨by assumption, by assumption, h⟩)

/-- What CLOSE can do. -/
theorem execClose_next {s t : State} (h : execClose s = .next t) :
    (s.life ≠ .lifeOpen ∧ t = refuse .notOpen s) ∨
    (s.life = .lifeOpen ∧ ∃ hd, s.transport = .ok hd ∧
      t = respond .ok .empty (discardInstance (logEvent (.closed .ok) s))) ∨
    (s.life = .lifeOpen ∧ ∃ e, s.transport = .err e ∧
      t = respond .transportError (.error e)
        (discardInstance (logEvent (.closed (.err e)) s))) := by
  rcases whenOpen_next h with ⟨ho, hb⟩ | ⟨ho, ht⟩
  · split at hb
    · exact .inr (.inl ⟨ho, _, by assumption, (Host.Outcome.next.inj hb).symm⟩)
    · exact .inr (.inr ⟨ho, _, by assumption, (Host.Outcome.next.inj hb).symm⟩)
    · cases hb
  · exact .inl ⟨ho, ht⟩

end Sys2Proof.Machine
end

