-- ==== Sys2Proof/Laws/PerInstr.lean ====
section
/-! SUPPORT. A statement about every command as syntax, one lemma for each constructor: the opcode
of its word is the one spec/30_encoding.md R63 gives it, and that opcode is not reserved (R65). -/

namespace Sys2Proof.Laws.OpcodeField

/-- The opcode R63 gives the command. -/
def opcodeOf : Instr → BitVec 4
  | .getSlot _ => 0x1
  | .setSlot _ _ => 0x2
  | .setRange _ _ _ => 0x3
  | .setAll _ => 0x4
  | .showFrame => 0x5
  | .setAutoshow _ => 0x6
  | .closeStrip => 0x7
  | .newStrip => 0x8
  | .encodeFrame => 0x9

/-- The word of the command has its opcode in bits 63:60, and the opcode is one of 0x1 to 0x9. -/
def Statement (i : Instr) : Prop :=
  (encode i).extractLsb' 60 4 = opcodeOf i ∧ 1 ≤ (opcodeOf i).toNat ∧ (opcodeOf i).toNat ≤ 9

theorem packFields_op (op : BitVec 4) (ia ib : Index) (f : Bool) (c : Color) :
    (packFields op ia ib f c).extractLsb' 60 4 = op := by
  ext j hj
  rw [BitVec.getElem_extractLsb', packFields_getLsbD _ _ _ _ _ _ (by omega)]
  rw [if_neg (by omega), if_neg (by omega), if_neg (by omega), if_neg (by omega),
    if_neg (by omega), if_neg (by omega), if_neg (by omega), Nat.add_sub_cancel_left,
    BitVec.getLsbD_eq_getElem hj]

theorem getSlot (index : Index) : Statement (.getSlot index) :=
  ⟨packFields_op .., by simp [opcodeOf], by simp [opcodeOf]⟩

theorem setSlot (index : Index) (color : Color) : Statement (.setSlot index color) :=
  ⟨packFields_op .., by simp [opcodeOf], by simp [opcodeOf]⟩

theorem setRange (start stop : Index) (color : Color) : Statement (.setRange start stop color) :=
  ⟨packFields_op .., by simp [opcodeOf], by simp [opcodeOf]⟩

theorem setAll (color : Color) : Statement (.setAll color) :=
  ⟨packFields_op .., by simp [opcodeOf], by simp [opcodeOf]⟩

theorem showFrame : Statement .showFrame := ⟨packFields_op .., by simp [opcodeOf], by simp [opcodeOf]⟩

theorem setAutoshow (flag : Bool) : Statement (.setAutoshow flag) :=
  ⟨packFields_op .., by simp [opcodeOf], by simp [opcodeOf]⟩

theorem closeStrip : Statement .closeStrip := ⟨packFields_op .., by simp [opcodeOf], by simp [opcodeOf]⟩

theorem newStrip : Statement .newStrip := ⟨packFields_op .., by simp [opcodeOf], by simp [opcodeOf]⟩

theorem encodeFrame : Statement .encodeFrame := ⟨packFields_op .., by simp [opcodeOf], by simp [opcodeOf]⟩

end Sys2Proof.Laws.OpcodeField
end

