-- ==== Sys2Proof/Laws/Step.lean ====
section
/-! SUPPORT. What a step and a meaning can do, said once. -/

namespace Sys2Proof.Machine

/-- A step that goes on is idle, runs a command, or refuses a word. -/
theorem step_next {s t : State} (h : step s = .next t) :
    (s.requests = [] ∧ t = s) ∨
    (∃ r, s.requests.head? = some r ∧ ∃ i, decode r.word = .command i ∧
      exec i (takeRequest r s) = .next t) ∨
    (∃ r, s.requests.head? = some r ∧ decode r.word = .reservedOrMalformed ∧
      t = refuse .reservedOrMalformed (takeRequest r s)) := by
  unfold step nextRequest at h
  split at h
  · rename_i hr
    exact .inl ⟨List.head?_eq_none_iff.1 hr, (Host.Outcome.next.inj h).symm⟩
  · rename_i r hr
    split at h
    · exact .inr (.inl ⟨r, hr, _, by assumption, h⟩)
    · exact .inr (.inr ⟨r, hr, by assumption, (Host.Outcome.next.inj h).symm⟩)

/-- A property that every command, every refusal and the taking of a request keep is kept by every
step. -/
theorem step_keeps {P : State → Prop} (hexec : ∀ i s t, P s → exec i s = .next t → P t)
    (hrefuse : ∀ s why, P s → P (refuse why s)) (htake : ∀ s r, P s → P (takeRequest r s))
    {s t : State} (hs : P s) (h : step s = .next t) : P t := by
  rcases step_next h with ⟨-, rfl⟩ | ⟨r, -, i, -, hi⟩ | ⟨r, -, -, rfl⟩
  · exact hs
  · exact hexec i _ t (htake s r hs) hi
  · exact hrefuse _ _ (htake s r hs)

/-- A buffer mutation that goes on has changed the slots before its autoshow tail, and the tail keeps
them: what SET can do. -/
theorem execSet_next {i : Index} {c : Color} {s t : State} (h : execSet i c s = .next t) :
    (s.life ≠ .lifeOpen ∧ t = refuse .notOpen s) ∨
    (s.life = .lifeOpen ∧ inRange i s.ledCount = true ∧
      autoshowTail (writeSlot i c s) = .next t) ∨
    (s.life = .lifeOpen ∧ inRange i s.ledCount = false ∧ t = raise (.indexOutOfRange i) s) := by
  rcases whenOpen_next h with ⟨ho, hb⟩ | ⟨ho, ht⟩
  · split at hb
    · exact .inr (.inl ⟨ho, by assumption, hb⟩)
    · exact .inr (.inr ⟨ho, by simp_all, (Host.Outcome.next.inj hb).symm⟩)
  · exact .inl ⟨ho, ht⟩

/-- The autoshow tail keeps the slots and the registers. -/
theorem autoshowTail_keeps {s t : State} (h : autoshowTail s = .next t) :
    t.color = s.color ∧ t.life = s.life ∧ t.ledCount = s.ledCount ∧ t.bright = s.bright ∧
    t.autoshow = s.autoshow ∧ t.clockHz = s.clockHz ∧ t.portId = s.portId ∧
    t.chipSelect = s.chipSelect ∧ t.handle = s.handle ∧ t.refused = s.refused := by
  rcases autoshowTail_next h with ⟨-, hf⟩ | ⟨-, rfl⟩
  · rcases flush_next hf with ⟨_, -, rfl⟩ | ⟨_, -, rfl⟩ <;> simp
  · simp

end Sys2Proof.Machine
end

