-- ==== Sys2Proof/Tests/Slice0.lean ====
section
/-! SUPPORT. Tests of the model against the vectors of spec/95_test_vectors.md, and for each statement
with hypotheses a state and operands that meet them. -/

namespace Sys2Proof.Tests

open Sys2Proof.Machine

/-! ### Small states -/

/-- The next state of an outcome, if it is one. -/
def nextOf : Result → Option State
  | .next t => some t
  | .fault _ => none
  | .refused _ => none

/-- The start state of V6: LIFE = OPEN, N = 3, BRIGHT = 30, every slot (0, 0, 0). -/
def openState (autoshow : Bool) (answer : TransportAnswer) : State :=
  { State.reset with
    life := .lifeOpen, ledCount := 3, color := [black, black, black], bright := 30,
    autoshow := autoshow, clockHz := 8000000, handle := some 7, transport := answer,
    txlog := [.opened 0 0 8000000 .ok], responses := [⟨.ok, .empty⟩] }

/-- A state with no instance, NEW's record and the transport's answer on the ports. -/
def unbuilt (life : Life) (cfg : ConfigRecord) (answer : TransportAnswer) : State :=
  { State.reset with life := life, cfgPort := cfg, transport := answer }

/-- NEW's record of V8, `led_count` given and the rest at the defaults. -/
def recordN (n : Int) : ConfigRecord := { ledCount := n, portId := 0, chipSelect := 0 }

/-- The last response after a command. -/
def lastResponse (r : Result) : Option Response :=
  (nextOf r).bind (fun t => t.responses.getLast?)

/-- The colours after a command. -/
def colorsAfter (r : Result) : Option (List Color) := (nextOf r).map (fun t => t.color)

/-- The last transport event after a command. -/
def lastEvent (r : Result) : Option TxEvent := (nextOf r).bind (fun t => t.txlog.getLast?)

/-! ### Decoding and encoding: words written out from R59, R63 (V4, V5) -/

theorem test_decode_get :
    decode (0b0001_0000000000000001_0000000000000000_000_0_00000000_00000000_00000000) =
      .command (.getSlot 1) := by decide

theorem test_decode_set :
    decode (0b0010_0000000000010000_0000000000000000_000_0_00000001_00000010_10000000) =
      .command (.setSlot 16 ⟨1, 2, 0x80⟩) := by decide

theorem test_decode_setRange :
    decode (0b0011_0000000000000101_0000000000001111_000_0_00000000_11111111_00000000) =
      .command (.setRange 5 15 ⟨0, 255, 0⟩) := by decide

theorem test_decode_setAll :
    decode (0b0100_0000000000000000_0000000000000000_000_0_00001010_00010100_00011110) =
      .command (.setAll ⟨10, 20, 30⟩) := by decide

theorem test_decode_showFrame :
    decode (0b0101_0000000000000000_0000000000000000_000_0_00000000_00000000_00000000) =
      .command .showFrame := by decide

theorem test_decode_setAutoshow :
    decode (0b0110_0000000000000000_0000000000000000_000_1_00000000_00000000_00000000) =
      .command (.setAutoshow true) := by decide

theorem test_decode_closeStrip :
    decode (0b0111_0000000000000000_0000000000000000_000_0_00000000_00000000_00000000) =
      .command .closeStrip := by decide

theorem test_decode_newStrip :
    decode (0b1000_0000000000000000_0000000000000000_000_0_00000000_00000000_00000000) =
      .command .newStrip := by decide

theorem test_decode_encodeFrame :
    decode (0b1001_0000000000000000_0000000000000000_000_0_00000000_00000000_00000000) =
      .command .encodeFrame := by decide

/-- V4: reserved opcodes and non-zero unused fields. -/
theorem test_decode_refuses :
    [0x0000000000000000, 0xA000000000000000, 0xF000000000000000, 0x1000000000000001,
      0x2000000001000000, 0x4000100000000000, 0x5000000000000001, 0x6000000002000000,
      0x8000000000000001].all (fun w => decode w = .reservedOrMalformed) = true := by decide

/-- V5: the words of commands. -/
theorem test_encode_words :
    encode (.setRange 2 100 ⟨1, 2, 3⟩) = 0x3000200640010203 ∧
    encode (.setSlot 4 ⟨9, 9, 9⟩) = 0x2000400000090909 ∧
    encode (.getSlot 3) = 0x1000300000000000 ∧
    encode (.setAutoshow true) = 0x6000000001000000 := by decide

theorem test_table_word : decodeTableWord 64 0x1000000000000000 = some (.getSlot 0) ∧
    decodeTableWord 64 0 = none := by decide

/-! ### The assembler (R71, V5) -/

theorem test_assemble_words :
    wordOfText "GET 1" = some 0x1000100000000000 ∧
    wordOfText "SET 0, 0x12, 0x34, 0x56" = some 0x2000000000123456 ∧
    wordOfText "SET_RANGE 3, 1, 255, 255, 255" = some 0x3000300010FFFFFF ∧
    wordOfText "SET_ALL 0xAB, 0xCD, 0xEF" = some 0x4000000000ABCDEF ∧
    wordOfText "SHOW" = some 0x5000000000000000 ∧
    wordOfText "SET_AUTOSHOW 0" = some 0x6000000000000000 ∧
    wordOfText "CLOSE" = some 0x7000000000000000 ∧
    wordOfText "ENCODE" = some 0x9000000000000000 := by decide

theorem test_assemble_new :
    assembleText "NEW led_count=2, clock_speed_hz=-5, port_id=0, chip_select=0" =
      some ⟨.newStrip, some ⟨2, 30, true, 0, 0, -5⟩⟩ := by decide

theorem test_assemble_refuses :
    wordOfText "GET 65536" = none ∧ wordOfText "SET 0, 256, 0, 0" = none ∧
    wordOfText "SET_AUTOSHOW 2" = none := by decide

/-! ### Well-formedness: an ill-formed term for each check -/

theorem test_illformed_index :
    (SourceLine.get 65536).wellFormed = false ∧ (SourceLine.get 65535).wellFormed = true ∧
    (SourceLine.setRange 0 65536 0 0 0).wellFormed = false := by decide

theorem test_illformed_channel :
    (SourceLine.setAll 0 256 0).wellFormed = false ∧
    (SourceLine.setAll 255 255 255).wellFormed = true ∧
    (SourceLine.set 0 0 0 256).wellFormed = false := by decide

theorem test_illformed_flag :
    (SourceLine.setAutoshow 2).wellFormed = false ∧
    (SourceLine.setAutoshow 1).wellFormed = true ∧
    (SourceLine.new 1 none (some 2) none none none).wellFormed = false := by decide

theorem test_illformed_record :
    (recordN 0).wellFormed = false ∧ (recordN 65536).wellFormed = false ∧
    (recordN 65535).wellFormed = true ∧
    (ConfigRecord.wellFormed { recordN 2 with clockSpeedHz := 0 }) = false := by decide

/-! ### Helpers against V1, V2, V3, V6 -/

theorem test_clamp_saturate :
    [-5, 0, 1, 15, 30, 31, 32, 50, 255].map (clampWith .saturate) =
      [0, 0, 1, 15, 30, 31, 31, 31, 31] := by decide

theorem test_clamp_literal :
    [-5, 0, 1, 15, 30, 31, 32, 50, 255].map (clampWith .literalExpr) =
      [31, 31, 1, 15, 30, 0, 0, 0, 0] := by decide

theorem test_endFrameLen :
    [0, 1, 2, 16, 17, 18, 20, 32, 33, 34, 65535].map endFrameLen =
      [0, 0, 1, 1, 1, 2, 2, 2, 2, 3, 4096] := by decide

theorem test_enc :
    enc [⟨255, 0, 0⟩, ⟨0, 0, 255⟩] 30 =
      [0, 0, 0, 0, 0xFE, 0, 0, 0xFF, 0xFE, 0xFF, 0, 0, 0] ∧
    enc [⟨0x12, 0x34, 0x56⟩] 5 = [0, 0, 0, 0, 0xE5, 0x56, 0x34, 0x12] := by decide

theorem test_rangeClamp :
    rangeClamp 5 15 20 = (5, 15) ∧ rangeClamp 0 65535 20 = (0, 20) ∧
    rangeClamp 15 5 20 = (15, 15) ∧ rangeClamp 19 20 20 = (19, 20) ∧
    rangeClamp 25 30 20 = (20, 20) := by decide

/-- R70, R26: the numeric codes. -/
theorem test_codes :
    [Status.ok, .invalidConfig, .indexOutOfRange, .transportError].map Status.code =
      [0, 1, 2, 3] ∧
    [Life.lifeNone, .lifeOpen, .lifeClosed].map Life.code = [0, 1, 2] := by decide

/-! ### One command each (V6, V7, V8) -/

theorem test_get_slot :
    lastResponse (exec (.getSlot 2) { openState true .silent with color := [black, black, ⟨1, 2, 3⟩] }) =
      some ⟨.ok, .color 0x010203⟩ := by decide

theorem test_get_past_the_end :
    lastResponse (exec (.getSlot 3) (openState true .silent)) =
      some ⟨.indexOutOfRange, .empty⟩ := by decide

theorem test_set_transmits :
    lastEvent (exec (.setSlot 0 ⟨255, 0, 0⟩) (openState true (.ok 7))) =
      some (.wrote [0, 0, 0, 0, 0xFE, 0, 0, 0xFF, 0xFE, 0, 0, 0, 0xFE, 0, 0, 0, 0] .ok) := by decide

theorem test_set_failing_write :
    (nextOf (exec (.setSlot 1 ⟨7, 7, 7⟩) (openState true (.err 9)))).map
      (fun t => (t.color, t.lastStatus, t.responses.getLast?)) =
      some ([black, ⟨7, 7, 7⟩, black], .transportError, some ⟨.transportError, .error 9⟩) := by
  decide

theorem test_setRange_clamps :
    colorsAfter (exec (.setRange 1 100 ⟨9, 9, 9⟩) (openState false .silent)) =
      some [black, ⟨9, 9, 9⟩, ⟨9, 9, 9⟩] := by decide

theorem test_setRange_empty_transmits :
    lastEvent (exec (.setRange 3 1 ⟨9, 9, 9⟩) (openState true (.ok 7))) =
      some (.wrote [0, 0, 0, 0, 0xFE, 0, 0, 0, 0xFE, 0, 0, 0, 0xFE, 0, 0, 0, 0] .ok) := by decide

theorem test_setAll_transmits :
    lastEvent (exec (.setAll ⟨10, 20, 30⟩) (openState true (.ok 7))) =
      some (.wrote [0, 0, 0, 0, 0xFE, 0x1E, 0x14, 0x0A, 0xFE, 0x1E, 0x14, 0x0A, 0xFE, 0x1E, 0x14,
        0x0A, 0] .ok) := by decide

theorem test_show_error :
    (nextOf (exec .showFrame (openState false (.err 3)))).map
      (fun t => (t.lastStatus, t.responses.getLast?)) =
      some (.transportError, some ⟨.transportError, .error 3⟩) := by decide

theorem test_encode_does_not_transmit :
    (nextOf (exec .encodeFrame (openState true (.ok 7)))).map
      (fun t => (t.txlog.length, t.responses.getLast?)) =
      some (1, some ⟨.ok, .bytes [0, 0, 0, 0, 0xFE, 0, 0, 0, 0xFE, 0, 0, 0, 0xFE, 0, 0, 0, 0]⟩) := by
  decide

theorem test_setAutoshow_is_silent :
    (nextOf (exec (.setAutoshow true) (openState false (.ok 7)))).map
      (fun t => (t.autoshow, t.txlog.length)) = some (true, 1) := by decide

theorem test_new_clamps :
    (nextOf (exec .newStrip
      (unbuilt .lifeNone { recordN 4 with globalBrightness := 50 } (.ok 7)))).map
      (fun t => (t.life, t.ledCount, t.bright, t.color.length, t.txlog)) =
      some (.lifeOpen, 4, 31, 4, [.opened 0 0 8000000 .ok]) := by decide

theorem test_new_checks_before_the_open :
    (nextOf (exec .newStrip (unbuilt .lifeNone { recordN 2 with clockSpeedHz := 0 } (.err 1)))).map
      (fun t => (t.life, t.txlog, t.responses)) =
      some (.lifeNone, [], [⟨.invalidConfig, .empty⟩]) := by decide

theorem test_close_error :
    (nextOf (exec .closeStrip (openState true (.err 2)))).map
      (fun t => (t.life, t.handle, t.txlog.getLast?, t.responses.getLast?)) =
      some (.lifeClosed, none, some (.closed (.err 2)), some ⟨.transportError, .error 2⟩) := by
  decide

/-! ### The step from power-on -/

/-- V8: SHOW while NONE is refused: REFUSED = 1 and no response. -/
theorem test_step_refuses_at_power_on :
    (nextOf (step (State.reset.withFetchWord 64 0x5000000000000000))).map
      (fun t => (t.refused, t.responses, t.life)) = some (true, [], .lifeNone) := by decide

/-- NEW is the one command with a meaning at power-on. -/
theorem test_step_new_at_power_on :
    (nextOf (step (State.withFetchWord { State.reset with cfgPort := recordN 1, transport := .ok 7 }
      64 0x8000000000000000))).map (fun t => (t.refused, t.life, t.color)) =
      some (false, .lifeOpen, [black]) := by decide

/-! ### Witnesses for the statements' hypotheses -/

/-- A step's state: an open instance and one request. -/
def withRequest (w : Word) (answer : TransportAnswer) : State :=
  { openState true .silent with requests := [⟨w, recordN 1, answer⟩] }

theorem witness_EncodeOfDecodeIsIdentity :
    decode 0x2000100000FF0000 = .command (.setSlot 1 ⟨255, 0, 0⟩) := by decide

theorem witness_ReservedOpcodesAreRefused :
    BitVec.extractLsb' 60 4 (0x0FFFFFFFFFFFFFFF : Word) = 0x0 ∧
    0xA ≤ (BitVec.extractLsb' 60 4 (0xA000000000000000 : Word)).toNat ∧
    0xA ≤ (BitVec.extractLsb' 60 4 (0xFFFFFFFFFFFFFFFF : Word)).toNat ∧
    (withRequest 0xFFFFFFFFFFFFFFFF (.ok 7)).requests =
      ⟨0xFFFFFFFFFFFFFFFF, recordN 1, .ok 7⟩ :: [] := by decide

theorem witness_AssemblerKeepsOperands :
    assembleLine (.get 65535) = some ⟨.getSlot 65535, none⟩ ∧ assembleLine (.get 65536) = none ∧
    assembleLine (.set 0 255 0 0) = some ⟨.setSlot 0 ⟨255, 0, 0⟩, none⟩ ∧
    assembleLine (.set 0 0 256 0) = none ∧
    assembleLine (.setRange 0 65535 1 1 1) = some ⟨.setRange 0 65535 ⟨1, 1, 1⟩, none⟩ ∧
    assembleLine (.setRange 65536 0 1 1 1) = none ∧
    assembleLine (.setAll 0 0 255) = some ⟨.setAll ⟨0, 0, 255⟩, none⟩ ∧
    assembleLine (.setAll 0 0 256) = none ∧
    assembleLine (.setAutoshow 1) = some ⟨.setAutoshow true, none⟩ ∧
    assembleLine (.setAutoshow 2) = none := by decide

/-- NEW lines for AssemblerKeepsOperands: every field given, autoshow at 0, 1 and 2, and each field
with a default left out while the other two are given. -/
theorem witness_AssemblerKeepsOperands_new :
    assembleLine (.new 2 (some (-7)) (some 0) (some 3) (some 4) (some 1)) =
      some ⟨.newStrip, some ⟨2, -7, false, 3, 4, 1⟩⟩ ∧
    assembleLine (.new 2 none (some 1) (some 3) (some 4) (some 1)) =
      some ⟨.newStrip, some ⟨2, 30, true, 3, 4, 1⟩⟩ ∧
    assembleLine (.new 2 (some 50) none (some 3) (some 4) (some 1)) =
      some ⟨.newStrip, some ⟨2, 50, true, 3, 4, 1⟩⟩ ∧
    assembleLine (.new 2 (some 50) (some 0) (some 3) (some 4) none) =
      some ⟨.newStrip, some ⟨2, 50, false, 3, 4, 8000000⟩⟩ ∧
    assembleLine (.new 2 (some 50) (some 2) (some 3) (some 4) (some 1)) = none := by decide

theorem witness_StepRunsDecodedCommand :
    (withRequest 0x5000000000000000 (.ok 7)).requests =
      ⟨0x5000000000000000, recordN 1, .ok 7⟩ :: [] ∧
    decode 0x5000000000000000 = .command .showFrame := by decide

theorem witness_StepRefusesMalformedWord :
    (withRequest 0xA000000000000000 (.ok 7)).requests =
      ⟨0xA000000000000000, recordN 1, .ok 7⟩ :: [] ∧
    decode 0xA000000000000000 = .reservedOrMalformed := by decide

theorem witness_IdleBlockKeepsState : State.reset.requests = [] := by decide

theorem witness_CommandsOutsideLifecycleAreRefused :
    (openState true .silent).life = .lifeOpen ∧
    (Instr.showFrame ≠ .newStrip ∧ State.reset.life ≠ .lifeOpen) ∧
    (Instr.closeStrip ≠ .newStrip ∧ (unbuilt .lifeClosed (recordN 1) .silent).life ≠ .lifeOpen) := by
  decide

theorem witness_CommandsCompleteWhenTransportAnswers :
    (openState true (.ok 7)).transport ≠ .silent ∧ (openState true (.err 1)).transport ≠ .silent := by
  decide

theorem witness_OnlySilentTransportStops :
    exec .showFrame (openState false .silent) = .fault .transportSilent := rfl

theorem witness_SilentTransportStopsCommands :
    (openState true .silent).transport = .silent ∧
    accepts (openState true .silent).life .showFrame = true ∧
    accepts (openState true .silent).life .closeStrip = true ∧
    accepts (openState true .silent).life (.setSlot 2 black) = true ∧
    (mutates (openState true .silent).ledCount (.setSlot 2 black) = true ∧
      (openState true .silent).autoshow = true) ∧
    accepts (unbuilt .lifeNone (recordN 65535) .silent).life .newStrip = true ∧
    (unbuilt .lifeNone (recordN 65535) .silent).cfgPort.wellFormed = true ∧
    (unbuilt .lifeNone (recordN 65535) .silent).transport = .silent := by decide

/-- One witness for the four invariant statements and the log's: a SET with autoshow is taken. -/
theorem witness_StepKeepsInvariants :
    BufferInv (withRequest 0x2000000000FF0000 (.ok 7)) ∧
    StatusInv (withRequest 0x2000000000FF0000 (.ok 7)) ∧
    SessionInv (withRequest 0x2000000000FF0000 (.ok 7)) ∧
    FramesInv (withRequest 0x2000000000FF0000 (.ok 7)) ∧
    (nextOf (step (withRequest 0x2000000000FF0000 (.ok 7)))).isSome = true := by decide

theorem witness_LogOnlyGrowsAndMarkStays :
    (nextOf (step { withRequest 0x7000000000000000 (.ok 7) with refused := true })).isSome = true ∧
    ({ withRequest 0x7000000000000000 (.ok 7) with refused := true } : State).refused = true := by
  decide

/-- An accepted and a refused command that go on, for ExactlyOneResponse, LastStatusFollowsResponse
and the first case of LifecycleTransitions. -/
theorem witness_accepted_and_refused :
    ((nextOf (exec .showFrame (openState true (.ok 7)))).isSome = true ∧
      accepts (openState true (.ok 7)).life .showFrame = true) ∧
    ((nextOf (exec .showFrame State.reset)).isSome = true ∧
      accepts State.reset.life .showFrame = false) := by decide

/-- NEW and CLOSE that change LIFE, for LifecycleTransitions and LastStatusFollowsResponse. -/
theorem witness_LifecycleTransitions :
    (nextOf (exec .newStrip (unbuilt .lifeClosed (recordN 1) (.ok 7)))).map State.life =
      some .lifeOpen ∧
    (nextOf (exec .closeStrip (openState true (.ok 7)))).map State.life = some .lifeClosed := by
  decide

theorem witness_ControlRegistersAreReadOnly :
    (nextOf (exec (.setAutoshow false) (openState true (.ok 7)))).isSome = true ∧
    (nextOf (exec (.setAll black) (openState true (.ok 7)))).isSome = true ∧
    (∀ f, Instr.setAll black ≠ .setAutoshow f) := by decide

/-- GET and SET at the last index and at N: the two sides of the index check. -/
theorem witness_index_boundary :
    (openState true (.ok 7)).life = .lifeOpen ∧
    (openState true (.ok 7)).color.length = (openState true (.ok 7)).ledCount.toNat ∧
    (2 : Index).toNat < (openState true (.ok 7)).ledCount.toNat ∧
    (openState true (.ok 7)).ledCount.toNat ≤ (3 : Index).toNat ∧
    (openState true (.ok 7)).ledCount.toNat ≤ (65535 : Index).toNat := by decide

/-- GET at the last index and at the first, with AUTOSHOW = 1 and a transport that never answers. -/
theorem witness_GetCompletesInRange :
    (openState true .silent).life = .lifeOpen ∧
    (2 : Index).toNat < (openState true .silent).ledCount.toNat ∧
    (openState true .silent).color[(2 : Index).toNat]? = some black ∧
    (0 : Index).toNat < (openState true .silent).ledCount.toNat ∧
    (openState true .silent).color[(0 : Index).toNat]? = some black := by decide

/-- The three Mutations statements: an index in range, the flag and each answer. -/
theorem witness_Mutations :
    ((openState false .silent).life = .lifeOpen ∧ (openState false .silent).autoshow = false) ∧
    ((openState true (.ok 7)).life = .lifeOpen ∧ (openState true (.ok 7)).autoshow = true ∧
      (openState true (.ok 7)).transport = .ok 7) ∧
    ((openState true (.err 1)).life = .lifeOpen ∧ (openState true (.err 1)).autoshow = true ∧
      (openState true (.err 1)).transport = .err 1) ∧
    (2 : Index).toNat < (openState true (.ok 7)).ledCount.toNat := by decide

theorem witness_SetAllIsTheFullRange :
    (openState true (.ok 7)).life = .lifeOpen ∧
    (openState true (.ok 7)).ledCount.toNat ≤ (3 : Index).toNat ∧
    (openState true (.ok 7)).ledCount.toNat ≤ (65535 : Index).toNat := by decide

theorem witness_RangeExactness :
    (openState true (.err 1)).life = .lifeOpen ∧
    (openState true (.err 1)).color.length = (openState true (.err 1)).ledCount.toNat ∧
    (nextOf (exec (.setRange 2 3 ⟨1, 1, 1⟩) (openState true (.err 1)))).isSome = true := by decide

/-- OneTransmissionPerMutation and BufferCommandsKeepRegisters: a mutation with AUTOSHOW = 1, and a
SET past the end, which transmits nothing. -/
theorem witness_OneTransmissionPerMutation :
    (openState true (.ok 7)).life = .lifeOpen ∧
    isBufferCommand (.setSlot 2 black) = true ∧ isBufferCommand (.setSlot 3 black) = true ∧
    mutates (openState true (.ok 7)).ledCount (.setSlot 2 black) = true ∧
    mutates (openState true (.ok 7)).ledCount (.setSlot 3 black) = false ∧
    (nextOf (exec (.setSlot 2 black) (openState true (.ok 7)))).isSome = true ∧
    (nextOf (exec (.setSlot 3 black) (openState true (.ok 7)))).isSome = true := by decide

/-- The slot written and another slot, read back after SET. -/
theorem witness_GetAfterSetReturnsTheColor :
    (openState true (.ok 7)).color[(2 : Index).toNat]? = some black ∧
    (openState true (.ok 7)).color[(0 : Index).toNat]? = some black ∧
    ((nextOf (exec (.setSlot 2 ⟨1, 2, 3⟩) (openState true (.ok 7)))).bind
      (fun t => nextOf (exec (.getSlot 2) t))).isSome = true ∧
    ((nextOf (exec (.setSlot 2 ⟨1, 2, 3⟩) (openState true (.ok 7)))).bind
      (fun t => nextOf (exec (.getSlot 0) t))).isSome = true := by decide

theorem witness_LedFrameOffsets : [black, ⟨1, 2, 3⟩][1]? = some (⟨1, 2, 3⟩ : Color) := by decide

theorem witness_FramesDetermineTheirColors :
    enc [⟨1, 2, 3⟩] 31 = enc [⟨1, 2, 3⟩] 31 ∧ ([⟨1, 2, 3⟩] : List Color) ≠ [] := by decide

/-- EncodeAnswersTheFrame, ShowTransmitsTheFrame, SetAutoshowWritesTheFlag, CloseReleasesTheTransport:
an open instance and each answer of the transport. -/
theorem witness_open_and_answers :
    (openState true (.ok 7)).life = .lifeOpen ∧ (openState true (.ok 7)).transport = .ok 7 ∧
    (openState true (.err 1)).life = .lifeOpen ∧ (openState true (.err 1)).transport = .err 1 := by
  decide

theorem witness_FramesRepeatWithoutMutation :
    (openState true .silent).life = .lifeOpen ∧
    (∀ x ∈ [(Instr.showFrame, TransportAnswer.err 1), (.setAutoshow false, .silent)],
      keepsFrame x.1 = true) ∧
    (nextOf (runCommands [(.showFrame, .err 1), (.setAutoshow false, .silent)]
      (openState true .silent))).isSome = true := by decide

/-- A write that answers ok, which adds a frame, and one that answers err, which adds nothing. -/
theorem witness_ChainReceivesWholeFrames :
    (nextOf (exec .showFrame (openState true (.ok 7)))).map (fun t => chainBytes t.txlog) =
      some (enc [black, black, black] 30) ∧
    (nextOf (exec .showFrame (openState true (.err 1)))).map (fun t => chainBytes t.txlog) =
      some [] := by decide

theorem witness_AutoshowDoesNotChangeTheBuffer :
    SameBuffer (openState true .silent) (openState false .silent) ∧
    (nextOf (runCommands [(.setSlot 1 ⟨9, 9, 9⟩, .ok 7)] (openState true .silent))).isSome = true ∧
    (nextOf (runCommands [(.setSlot 1 ⟨9, 9, 9⟩, .ok 7)] (openState false .silent))).isSome = true :=
  ⟨rfl, by decide, by decide⟩

/-- The smallest and the largest LED count and the smallest clock speed that NEW takes. -/
theorem witness_NewBuildsTheInstance :
    (unbuilt .lifeNone (recordN 1) (.ok 7)).life ≠ .lifeOpen ∧
    (unbuilt .lifeNone (recordN 1) (.ok 7)).transport = .ok 7 ∧
    1 ≤ (recordN 1).ledCount ∧ (recordN 65535).ledCount ≤ 65535 ∧
    1 ≤ (ConfigRecord.clockSpeedHz { recordN 65535 with clockSpeedHz := 1 }) := by decide

theorem witness_NewRejectsIllegalRecords :
    (unbuilt .lifeClosed (recordN 0) (.err 1)).life ≠ .lifeOpen ∧
    (recordN 0).ledCount ≤ 0 ∧ 65535 < (recordN 65536).ledCount ∧
    (ConfigRecord.clockSpeedHz { recordN 2 with clockSpeedHz := 0 }) ≤ 0 := by decide

theorem witness_NewFailsWithTheTransport :
    (unbuilt .lifeNone (recordN 2) (.err 1)).life ≠ .lifeOpen ∧
    (unbuilt .lifeNone (recordN 2) (.err 1)).transport = .err 1 ∧
    1 ≤ (recordN 2).ledCount ∧ (recordN 2).ledCount ≤ 65535 ∧ 1 ≤ (recordN 2).clockSpeedHz := by
  decide

/-- A power-on state and a closed one with a colour left in its fields, both built anew. -/
theorem witness_NewCarriesNothingOver :
    (nextOf (exec .newStrip (unbuilt .lifeNone (recordN 1) (.ok 7)))).map State.life =
      some .lifeOpen ∧
    (nextOf (exec .newStrip
      { unbuilt .lifeClosed (recordN 1) (.ok 7) with color := [⟨9, 9, 9⟩], bright := 3 })).map
      State.life = some .lifeOpen := by decide

theorem witness_AddressingIsNotInterpreted :
    Instr.showFrame ≠ .newStrip ∧ Instr.showFrame ≠ .closeStrip ∧
    (nextOf (exec .showFrame (openState true (.ok 7)))).isSome = true := by decide

end Sys2Proof.Tests
end

section
/-! One step with a request pending (spec/00_scope.md R11). -/

namespace Sys2Proof.Machine

variable {s : State} {r : Request} {rest : List Request}

theorem nextRequest_eq_some_of_requests_cons (h : s.requests = r :: rest) :
    nextRequest s = some r := by
  simp only [nextRequest, h, List.head?_cons]

/-- Taking the oldest request leaves the others pending (log 4). -/
theorem takeRequest_of_requests_cons (h : s.requests = r :: rest) :
    takeRequest r s = { s with requests := rest, cfgPort := r.cfg, transport := r.answer } := by
  simp only [takeRequest, h, List.tail_cons]

/-- R11: the step when the oldest request's word is a command. -/
theorem step_eq_exec_takeRequest {i : Instr} (h : s.requests = r :: rest)
    (hi : decode r.word = .command i) : step s = exec i (takeRequest r s) := by
  simp only [step, nextRequest_eq_some_of_requests_cons h, hi]

/-- Settles O7: the step runs the command on `takeRequest`, which is the state with the oldest request
dropped and its record and answer on the ports. -/
theorem stepRunsDecodedCommand : Obligations.StepRunsDecodedCommand := by
  intro s r rest i h hi
  calc step s = exec i (takeRequest r s) := step_eq_exec_takeRequest h hi
    _ = exec i { s with requests := rest, cfgPort := r.cfg, transport := r.answer } := by
      rw [takeRequest_of_requests_cons h]

end Sys2Proof.Machine
end

section
/-! What a command can do, said once for every command: `exec_effect`. The invariants and the frame
statements below are case analyses of it. -/

namespace Sys2Proof.Machine

/-! ### The lifecycle check (spec/60_exceptions.md R125) -/

theorem accepts_newStrip {l : Life} : accepts l .newStrip = true ↔ l ≠ .lifeOpen := by
  simp [accepts]

theorem accepts_of_ne_newStrip {l : Life} {i : Instr} (hi : i ≠ .newStrip) :
    accepts l i = true ↔ l = .lifeOpen := by
  cases i with
  | newStrip => exact absurd rfl hi
  | _ => simp [accepts]

/-! ### The effects -/

/-- What a command other than NEW and CLOSE writes while LIFE = OPEN before it transmits or answers:
slots, whose number it keeps, and AUTOSHOW if it is SET_AUTOSHOW (spec/10_state.md R26). -/
inductive Prepares (i : Instr) (s : State) : State → Prop
  | write (slots : List Color) (flag : Bool) (isOpen : s.life = .lifeOpen)
      (notNew : i ≠ .newStrip) (notClose : i ≠ .closeStrip)
      (sameLength : slots.length = s.color.length)
      (sameFlag : (∀ f, i ≠ .setAutoshow f) → flag = s.autoshow) :
      Prepares i s { s with color := slots, autoshow := flag }

/-- The next states of a command. -/
inductive ExecEffect (s : State) : Instr → State → Prop
  /-- The lifecycle does not accept it (R107, R111). -/
  | refused {i : Instr} (why : RefuseReason) (notAccepted : accepts s.life i = false) :
      ExecEffect s i (refuse why s)
  /-- NEW with an illegal record (R105). -/
  | recordRejected (field : ConfigField) (notOpen : s.life ≠ .lifeOpen)
      (illegal : configError s.cfgPort = some field) :
      ExecEffect s .newStrip (raise (.invalidConfig field) s)
  /-- NEW whose `open` fails (R104). -/
  | openFailed (e : ErrorValue) (notOpen : s.life ≠ .lifeOpen)
      (legal : configError s.cfgPort = none) (answer : s.transport = .err e) :
      ExecEffect s .newStrip (raise (.transportError e) (logEvent (.opened s.cfgPort.portId
        s.cfgPort.chipSelect s.cfgPort.clockSpeedHz (.err e)) s))
  /-- NEW that succeeds (R104). -/
  | built (hd : Handle) (notOpen : s.life ≠ .lifeOpen)
      (legal : configError s.cfgPort = none) (answer : s.transport = .ok hd) :
      ExecEffect s .newStrip (respond .ok .empty (buildInstance s.cfgPort hd (logEvent (.opened
        s.cfgPort.portId s.cfgPort.chipSelect s.cfgPort.clockSpeedHz .ok) s)))
  /-- CLOSE, whatever the transport answers (R109, R110). -/
  | closed (st : Status) (d : Data) (outcome : TxOutcome) (isOpen : s.life = .lifeOpen) :
      ExecEffect s .closeStrip (respond st d (discardInstance (logEvent (.closed outcome) s)))
  /-- GET or SET past the last slot (R83). -/
  | indexRejected {i : Instr} (index : Index) (isOpen : s.life = .lifeOpen)
      (notNew : i ≠ .newStrip) (notClose : i ≠ .closeStrip) :
      ExecEffect s i (raise (.indexOutOfRange index) s)
  /-- A command that succeeds without a transmission. -/
  | completed {i : Instr} {u : State} (d : Data) (prepared : Prepares i s u) :
      ExecEffect s i (complete d u)
  /-- A command whose write succeeds (R99). -/
  | wrote {i : Instr} {u : State} (hd : Handle) (prepared : Prepares i s u)
      (answer : s.transport = .ok hd) :
      ExecEffect s i (complete .empty (logEvent (.wrote (currentFrame u) .ok) u))
  /-- A command whose write fails (R99, R116). -/
  | writeFailed {i : Instr} {u : State} (e : ErrorValue) (prepared : Prepares i s u)
      (answer : s.transport = .err e) :
      ExecEffect s i
        (raise (.transportError e) (logEvent (.wrote (currentFrame u) (.err e)) u))

variable {i : Instr} {s t u : State} {body : Result}

theorem Prepares.transport_eq (hu : Prepares i s u) : u.transport = s.transport := by
  cases hu; rfl

theorem prepares_self (ho : s.life = .lifeOpen) (hn : i ≠ .newStrip) (hc : i ≠ .closeStrip) :
    Prepares i s s :=
  .write s.color s.autoshow ho hn hc rfl fun _ => rfl

theorem whenOpen_effect (hn : i ≠ .newStrip) (h : whenOpen s body = .next t)
    (hbody : s.life = .lifeOpen → body = .next t → ExecEffect s i t) : ExecEffect s i t := by
  rcases whenOpen_next h with ⟨ho, hb⟩ | ⟨ho, rfl⟩
  · exact hbody ho hb
  · exact .refused _ (Bool.eq_false_iff.2 fun ha => ho ((accepts_of_ne_newStrip hn).1 ha))

theorem flush_effect (hu : Prepares i s u) (h : flush u = .next t) : ExecEffect s i t := by
  rcases flush_next h with ⟨hd, ha, rfl⟩ | ⟨e, ha, rfl⟩
  · exact .wrote hd hu (hu.transport_eq ▸ ha)
  · exact .writeFailed e hu (hu.transport_eq ▸ ha)

theorem autoshowTail_effect (hu : Prepares i s u) (h : autoshowTail u = .next t) :
    ExecEffect s i t := by
  rcases autoshowTail_next h with ⟨-, hf⟩ | ⟨-, rfl⟩
  · exact flush_effect hu hf
  · exact .completed _ hu

theorem execNew_effect (h : execNew s = .next t) : ExecEffect s .newStrip t := by
  rcases execNew_next h with ⟨ho, rfl⟩ | ⟨ho, f, hf, rfl⟩ | ⟨ho, hl, hb⟩
  · exact .refused _ (by simp [accepts, ho])
  · exact .recordRejected f ho hf
  · rcases openAndBuild_next hb with ⟨hd, ha, rfl⟩ | ⟨e, ha, rfl⟩
    · exact .built hd ho hl ha
    · exact .openFailed e ho hl ha

theorem execClose_effect (h : execClose s = .next t) : ExecEffect s .closeStrip t := by
  rcases execClose_next h with ⟨ho, rfl⟩ | ⟨ho, _, -, rfl⟩ | ⟨ho, _, -, rfl⟩
  · exact .refused _ (by simp [accepts, ho])
  · exact .closed _ _ _ ho
  · exact .closed _ _ _ ho

/-- Every next state of a command is one of its effects. -/
theorem exec_effect (h : exec i s = .next t) : ExecEffect s i t := by
  cases i with
  | getSlot index =>
    refine whenOpen_effect (by simp) h fun ho hb => ?_
    split at hb <;> cases hb
    · exact .completed _ (prepares_self ho (by simp) (by simp))
    · exact .indexRejected index ho (by simp) (by simp)
  | setSlot index c =>
    rcases execSet_next h with ⟨ho, rfl⟩ | ⟨ho, -, hb⟩ | ⟨ho, -, rfl⟩
    · exact .refused _ (by simp [accepts, ho])
    · exact autoshowTail_effect (.write _ _ ho (by simp) (by simp) (by simp) fun _ => rfl) hb
    · exact .indexRejected index ho (by simp) (by simp)
  | setRange start stop c =>
    exact whenOpen_effect (by simp) h fun ho hb =>
      autoshowTail_effect (.write _ _ ho (by simp) (by simp) (by simp) fun _ => rfl) hb
  | setAll c =>
    exact whenOpen_effect (by simp) h fun ho hb =>
      autoshowTail_effect (.write _ _ ho (by simp) (by simp) (by simp) fun _ => rfl) hb
  | showFrame =>
    exact whenOpen_effect (by simp) h fun ho hb =>
      flush_effect (prepares_self ho (by simp) (by simp)) hb
  | setAutoshow flag =>
    refine whenOpen_effect (by simp) h fun ho hb => ?_
    cases hb
    exact .completed _ (.write _ _ ho (by simp) (by simp) rfl fun hf => absurd rfl (hf flag))
  | closeStrip => exact execClose_effect h
  | newStrip => exact execNew_effect h
  | encodeFrame =>
    refine whenOpen_effect (by simp) h fun ho hb => ?_
    cases hb
    exact .completed _ (prepares_self ho (by simp) (by simp))

end Sys2Proof.Machine
end

section
/-! The invariants of the state: the buffer and HANDLE, LAST_STATUS, the log and the mark
(spec/10_state.md R16, R17, R23, R26, R31, R33, R34). -/

namespace Sys2Proof.Machine

variable {i : Instr} {s t : State}

/-! ### The buffer and HANDLE -/

/-- The invariant speaks of five fields only. -/
theorem BufferInv.congr (hs : BufferInv s) (hlife : t.life = s.life)
    (hlen : t.color.length = s.color.length) (hn : t.ledCount = s.ledCount)
    (hclock : t.clockHz = s.clockHz) (hhandle : t.handle = s.handle) : BufferInv t := by
  simpa only [BufferInv, hlife, hlen, hn, hclock, hhandle] using hs

/-- A record that passes NEW's checks (R104, R105) is in the bounds of R68. -/
theorem bounds_of_configError_eq_none {cfg : ConfigRecord} (h : configError cfg = none) :
    1 ≤ cfg.ledCount ∧ cfg.ledCount ≤ 65535 ∧ 1 ≤ cfg.clockSpeedHz := by
  have hw := (configError_none cfg).1 h
  simp only [ConfigRecord.wellFormed, Bool.and_eq_true, decide_eq_true_eq] at hw
  obtain ⟨⟨hlo, hhi⟩, hclock⟩ := hw
  exact ⟨hlo, hhi, hclock⟩

/-- An LED count within MAX_LED_COUNT is not cut by the 16 bits of N. -/
theorem toNat_ofInt_ledCount {n : Int} (h0 : 0 ≤ n) (h : n ≤ 65535) :
    (BitVec.ofInt 16 n).toNat = n.toNat := by
  rw [BitVec.toNat_ofInt]
  omega

theorem buildInstance_bufferInv {cfg : ConfigRecord} (hd : Handle) (s : State)
    (h : configError cfg = none) : BufferInv (buildInstance cfg hd s) := by
  obtain ⟨hlo, hhi, hclock⟩ := bounds_of_configError_eq_none h
  have hn := toNat_ofInt_ledCount (by omega) hhi
  refine ⟨fun _ => ⟨?_, ?_, hclock, rfl⟩, fun hno => absurd rfl hno⟩
  · simp [hn]
  · simp only [buildInstance_ledCount, hn]
    omega

theorem exec_keeps_bufferInv (hs : BufferInv s) (h : exec i s = .next t) : BufferInv t := by
  cases exec_effect h with
  | refused | recordRejected | openFailed | indexRejected =>
    exact hs.congr (by simp) (by simp) (by simp) (by simp) (by simp)
  | built hd _ hlegal => exact (buildInstance_bufferInv hd s hlegal).congr rfl rfl rfl rfl rfl
  | closed => exact ⟨by simp, by simp⟩
  | completed _ hu | wrote _ hu _ | writeFailed _ hu _ =>
    obtain ⟨slots, flag, -, -, -, hlen, -⟩ := hu
    exact hs.congr (by simp) (by simp [hlen]) (by simp) (by simp) (by simp)

/-- Settles O16: a successful NEW builds the LED count of a legal record, CLOSE drops the handle,
and every other command keeps the number of slots and the registers. -/
theorem stepKeepsBufferAndHandle : Obligations.StepKeepsBufferAndHandle := by
  intro s t hs h
  exact step_keeps (P := BufferInv) (fun _ _ _ hs h => exec_keeps_bufferInv hs h)
    (fun _ _ hs => hs.congr rfl rfl rfl rfl rfl) (fun _ _ hs => hs.congr rfl rfl rfl rfl rfl) hs h

/-! ### LAST_STATUS -/

/-- Settles O22: `complete` and, while open, `raise` record the status they answer; the commands
that leave LIFE not OPEN answer without recording it. -/
theorem lastStatusFollowsResponse : Obligations.LastStatusFollowsResponse := by
  intro i s t h
  cases exec_effect h with
  | refused why hna => simp [hna]
  | recordRejected _ hno | openFailed _ hno => simp [hno, raise_lastStatus]
  | built _ hno => simp [accepts_newStrip, hno]
  | closed => simp
  | indexRejected _ ho hn => simp [accepts_of_ne_newStrip hn, ho, raise_lastStatus]
  | completed _ hu | wrote _ hu | writeFailed _ hu =>
    obtain ⟨slots, flag, ho, hn, -, -, -⟩ := hu
    simp [accepts_of_ne_newStrip hn, ho, raise_lastStatus]

/-- A command that is not accepted is refused. -/
theorem exec_eq_refuse_of_not_accepts (ha : ¬ accepts s.life i = true) (h : exec i s = .next t) :
    ∃ why, t = refuse why s := by
  cases exec_effect h with
  | refused why _ => exact ⟨why, rfl⟩
  | recordRejected _ hno | openFailed _ hno | built _ hno => exact absurd (accepts_newStrip.2 hno) ha
  | closed _ _ _ ho => exact absurd (by simp [accepts, ho]) ha
  | indexRejected _ ho hn => exact absurd ((accepts_of_ne_newStrip hn).2 ho) ha
  | completed _ hu | wrote _ hu | writeFailed _ hu =>
    obtain ⟨slots, flag, ho, hn, -, -, -⟩ := hu
    exact absurd ((accepts_of_ne_newStrip hn).2 ho) ha

theorem exec_keeps_statusInv (hs : StatusInv s) (h : exec i s = .next t) : StatusInv t := by
  intro ht
  by_cases ha : accepts s.life i = true
  · have hlast := lastStatusFollowsResponse i s t h
    rw [if_pos ⟨ha, ht⟩] at hlast
    obtain ⟨r, hr, hst⟩ := hlast
    simp [hr, hst]
  · obtain ⟨why, rfl⟩ := exec_eq_refuse_of_not_accepts ha h
    exact hs ht

/-- Settles O17: an accepted command records the status of its response (O22), and a refused command
keeps LIFE, LAST_STATUS and the responses. -/
theorem stepKeepsLastStatus : Obligations.StepKeepsLastStatus := by
  intro s t hs h
  exact step_keeps (P := StatusInv) (fun _ _ _ hs h => exec_keeps_statusInv hs h)
    (fun _ _ hs => hs) (fun _ _ hs => hs) hs h

/-! ### TXLOG and REFUSED -/

/-- TXLOG extended by at most one event, and REFUSED not cleared (R33, R34). -/
def LogExtends (s t : State) : Prop :=
  (∃ ev, t.txlog = s.txlog ++ ev ∧ ev.length ≤ 1) ∧ (s.refused = true → t.refused = true)

theorem LogExtends.of_same (hlog : t.txlog = s.txlog)
    (hmark : s.refused = true → t.refused = true) : LogExtends s t :=
  ⟨⟨[], by simp [hlog], by simp⟩, hmark⟩

theorem LogExtends.of_event (ev : TxEvent) (hlog : t.txlog = s.txlog ++ [ev])
    (hmark : t.refused = s.refused) : LogExtends s t :=
  ⟨⟨[ev], hlog, by simp⟩, fun h => hmark.trans h⟩

theorem exec_logExtends (h : exec i s = .next t) : LogExtends s t := by
  cases exec_effect h with
  | refused => exact .of_same rfl fun _ => rfl
  | recordRejected | indexRejected => exact .of_same (by simp) (by simp)
  | openFailed | built | closed => exact .of_event _ (by simp; rfl) (by simp)
  | completed _ hu => cases hu; exact .of_same rfl id
  | wrote _ hu | writeFailed _ hu => cases hu; exact .of_event _ (by simp; rfl) (by simp)

/-- Settles O20: a command adds no event, or the one of its transport operation, and only a refusal
writes REFUSED. -/
theorem logOnlyGrowsAndMarkStays : Obligations.LogOnlyGrowsAndMarkStays := by
  intro s t h
  rcases step_next h with ⟨-, rfl⟩ | ⟨r, -, i, -, hi⟩ | ⟨r, -, -, rfl⟩
  · exact LogExtends.of_same rfl id
  · exact (exec_logExtends hi : LogExtends (takeRequest r s) t)
  · exact LogExtends.of_same rfl fun _ => rfl

end Sys2Proof.Machine
end

section
/-! The frame of the commands: LIFE, the control registers, the chain
(spec/10_state.md R15, R26 to R28, R33; spec/20_memory.md R51). -/

namespace Sys2Proof.Machine

variable {i : Instr} {s t : State}

/-! ### LIFE and the control registers -/

/-- Settles O23: of the effects only `built` and `closed` write LIFE. -/
theorem lifecycleTransitions : Obligations.LifecycleTransitions := by
  intro i s t h
  cases exec_effect h with
  | refused | recordRejected | openFailed | indexRejected => exact .inl (by simp)
  | built _ hno => exact .inr (.inl ⟨rfl, hno, rfl, rfl⟩)
  | closed _ _ _ ho => exact .inr (.inr ⟨rfl, ho, rfl⟩)
  | completed _ hu | wrote _ hu | writeFailed _ hu => cases hu; exact .inl (by simp)

/-- Settles O24: what a command prepares are slots and AUTOSHOW, and an answer writes the responses
and LAST_STATUS only. -/
theorem controlRegistersAreReadOnly : Obligations.ControlRegistersAreReadOnly := by
  intro i s t h hn hc
  cases exec_effect h with
  | refused | indexRejected => simp
  | recordRejected | openFailed | built => exact absurd rfl hn
  | closed => exact absurd rfl hc
  | completed _ hu | wrote _ hu | writeFailed _ hu =>
    obtain ⟨slots, flag, -, -, -, -, hflag⟩ := hu
    simpa using hflag

/-! ### The chain -/

theorem chainBytes_append (xs ys : List TxEvent) :
    chainBytes (xs ++ ys) = chainBytes xs ++ chainBytes ys := by
  induction xs with
  | nil => rfl
  | cons x xs ih =>
    cases x with
    | wrote f o => cases o <;> simp [chainBytes, ih]
    | opened | closed => simpa [chainBytes] using ih

/-- Settles O46: a write that succeeds logs the frame of the buffer, which the answer keeps; every
other event adds no byte. -/
theorem chainReceivesWholeFrames : Obligations.ChainReceivesWholeFrames := by
  intro i s t h
  cases exec_effect h with
  | refused | recordRejected | indexRejected => exact .inl (by simp)
  | openFailed | built | closed => exact .inl (by simp [chainBytes_append, chainBytes])
  | completed _ hu => cases hu; exact .inl rfl
  | wrote hd hu ha =>
    cases hu
    exact .inr ⟨⟨hd, ha⟩, by simp [chainBytes_append, chainBytes, currentFrame]⟩
  | writeFailed _ hu => cases hu; exact .inl (by simp [chainBytes_append, chainBytes])

/-! ### NEW -/

theorem exec_newStrip_opens (hno : s.life ≠ .lifeOpen) (h : exec .newStrip s = .next t)
    (ht : t.life = .lifeOpen) :
    configError s.cfgPort = none ∧ ∃ hd, s.transport = .ok hd ∧
      t = respond .ok .empty (buildInstance s.cfgPort hd (logEvent (.opened s.cfgPort.portId
        s.cfgPort.chipSelect s.cfgPort.clockSpeedHz .ok) s)) := by
  cases exec_effect h with
  | refused | recordRejected | openFailed => exact absurd (by simpa using ht) hno
  | built hd _ hlegal ha => exact ⟨hlegal, hd, ha, rfl⟩
  | indexRejected _ ho => exact absurd ho hno
  | completed _ hu | wrote _ hu | writeFailed _ hu => cases hu; contradiction

theorem exec_newStrip_of_legal {hd : Handle} (hno : s.life ≠ .lifeOpen)
    (hlegal : configError s.cfgPort = none) (ha : s.transport = .ok hd) :
    exec .newStrip s = .next (respond .ok .empty (buildInstance s.cfgPort hd (logEvent (.opened
      s.cfgPort.portId s.cfgPort.chipSelect s.cfgPort.clockSpeedHz .ok) s))) := by
  simp [exec, execNew, openAndBuild, hno, hlegal, ha]

/-- Settles O52: the record and the answer that let NEW succeed in one state let it succeed in the
other, and it writes each of these fields from them and from the clamp policy. -/
theorem newCarriesNothingOver : Obligations.NewCarriesNothingOver := by
  intro s s' t t' hno hno' hcfg htr hpol h h' ht
  obtain ⟨hlegal, hd, ha, rfl⟩ := exec_newStrip_opens hno h ht
  have hbuilt := exec_newStrip_of_legal hno' (hcfg ▸ hlegal) (htr ▸ ha)
  cases hbuilt.symm.trans h'
  simp [hcfg, hpol]

end Sys2Proof.Machine
end

section
/-! The block does not look at what it hands to the transport (spec/10_state.md R29 to R31):
changing PORT_ID, CHIP_SELECT, CLOCK_HZ and HANDLE commutes with every command but NEW and CLOSE. -/

namespace Sys2Proof.Machine

/-- An outcome with its next state, if it is one, changed. -/
def mapNext (f : State → State) : Result → Result
  | .next s => .next (f s)
  | .fault r => .fault r
  | .refused r => .refused r

variable (p : PortId) (q : ChipSelect) (k : Int) (hd : Option Handle)

theorem complete_withAddressing (d : Data) (s : State) :
    complete d (withAddressing p q k hd s) = withAddressing p q k hd (complete d s) := rfl

theorem raise_withAddressing (e : CommandError) (s : State) :
    raise e (withAddressing p q k hd s) = withAddressing p q k hd (raise e s) := by
  by_cases ho : s.life = .lifeOpen
  · rw [raise_open e s ho, raise_open e (withAddressing p q k hd s) ho]; rfl
  · rw [raise_not_open e s ho, raise_not_open e (withAddressing p q k hd s) ho]; rfl

theorem whenOpen_withAddressing {s : State} {body body' : Result}
    (hbody : body' = mapNext (withAddressing p q k hd) body) :
    whenOpen (withAddressing p q k hd s) body' =
      mapNext (withAddressing p q k hd) (whenOpen s body) := by
  by_cases ho : s.life = .lifeOpen
  · rw [whenOpen_open s body ho, whenOpen_open (withAddressing p q k hd s) body' ho, hbody]
  · rw [whenOpen_not_open s body ho, whenOpen_not_open (withAddressing p q k hd s) body' ho]; rfl

theorem flush_withAddressing (s : State) :
    flush (withAddressing p q k hd s) = mapNext (withAddressing p q k hd) (flush s) := by
  have htr : (withAddressing p q k hd s).transport = s.transport := rfl
  cases ha : s.transport with
  | ok _ => simp only [flush, htr, ha]; rfl
  | err e =>
    simp only [flush, htr, ha, mapNext, ← raise_withAddressing]; rfl
  | silent => simp only [flush, htr, ha]; rfl

theorem autoshowTail_withAddressing (s : State) :
    autoshowTail (withAddressing p q k hd s) =
      mapNext (withAddressing p q k hd) (autoshowTail s) := by
  have hflag : (withAddressing p q k hd s).autoshow = s.autoshow := rfl
  cases ha : s.autoshow with
  | true => simp only [autoshowTail, hflag, ha, if_true, flush_withAddressing]
  | false => simp only [autoshowTail, hflag, ha]; rfl

theorem exec_withAddressing {i : Instr} (s : State) (hn : i ≠ .newStrip) (hc : i ≠ .closeStrip) :
    exec i (withAddressing p q k hd s) = mapNext (withAddressing p q k hd) (exec i s) := by
  cases i with
  | newStrip => exact absurd rfl hn
  | closeStrip => exact absurd rfl hc
  | getSlot index =>
    refine whenOpen_withAddressing p q k hd ?_
    rw [apply_ite (mapNext _)]
    exact if_congr Iff.rfl rfl (congrArg _ (raise_withAddressing ..))
  | setSlot index c =>
    refine whenOpen_withAddressing p q k hd ?_
    rw [apply_ite (mapNext _)]
    exact if_congr Iff.rfl (autoshowTail_withAddressing p q k hd (writeSlot index c s))
      (congrArg _ (raise_withAddressing ..))
  | setRange | setAll =>
    exact whenOpen_withAddressing p q k hd (autoshowTail_withAddressing p q k hd (writeRange ..))
  | showFrame => exact whenOpen_withAddressing p q k hd (flush_withAddressing ..)
  | setAutoshow | encodeFrame => exact whenOpen_withAddressing p q k hd rfl

/-- Settles O55: each operation such a command is made of commutes with `withAddressing`. -/
theorem addressingIsNotInterpreted : Obligations.AddressingIsNotInterpreted := by
  intro i s t p q k hd hn hc h
  rw [exec_withAddressing p q k hd s hn hc, h]
  rfl

end Sys2Proof.Machine
end

section
/-! The brightness clamp (spec/10_state.md R25). -/

namespace Sys2Proof.Machine

/-- A brightness strictly between the ends of the range fits 5 bits. -/
theorem toNat_ofInt_bright {b : Int} (h0 : 0 < b) (h31 : b < 31) :
    ((BitVec.ofInt 5 b).toNat : Int) = b := by
  rw [BitVec.toNat_ofInt]
  omega

theorem clampWith_of_nonpos {b : Int} (h : b ≤ 0) :
    clampWith .saturate b = 0 ∧ clampWith .literalExpr b = 31 := by
  have h0 : ¬ 0 < b := by omega
  simp [clampWith, h, h0]

theorem clampWith_of_ge {b : Int} (h : 31 ≤ b) :
    clampWith .saturate b = 31 ∧ clampWith .literalExpr b = 0 := by
  have h0 : 0 < b := by omega
  have h31 : ¬ b < 31 := by omega
  simp [clampWith, h, h0, h31]

theorem clampWith_of_between (p : ClampPolicy) {b : Int} (h0 : 0 < b) (h31 : b < 31) :
    clampWith p b = BitVec.ofInt 5 b := by
  have hlo : ¬ b ≤ 0 := by omega
  have hhi : ¬ 31 ≤ b := by omega
  cases p <;> simp [clampWith, h0, h31, hlo, hhi]

/-- Settles O48: the two policies agree strictly between 0 and 31 and differ in the ends. -/
theorem clampPolicies : Obligations.ClampPolicies := by
  refine ⟨fun b => ⟨clampWith_of_nonpos, clampWith_of_ge, fun h0 h31 => ?_⟩, fun p => ?_⟩
  · simp only [clampWith_of_between _ h0 h31, toNat_ofInt_bright h0 h31, and_self]
  · rw [clampWith_of_between p (by decide) (by decide)]; rfl

end Sys2Proof.Machine
end

section
/-! The responses of a command (spec/20_memory.md R42, spec/10_state.md R34). -/

namespace Sys2Proof.Machine

variable {i : Instr} {s t : State}

/-- An executed command answers exactly once and does not set the mark. -/
theorem exec_responds_once_of_accepts (ha : accepts s.life i = true) (h : exec i s = .next t) :
    t.refused = s.refused ∧ ∃ r, t.responses = s.responses ++ [r] := by
  cases exec_effect h with
  | refused _ hna => exact absurd ha (Bool.eq_false_iff.1 hna)
  | recordRejected | openFailed | built | closed | indexRejected => simp
  | completed _ hu | wrote _ hu | writeFailed _ hu => cases hu; simp

/-- Settles O21: an accepted command ends in one `respond`, and a command that is not accepted is
`refuse`, which writes the mark and nothing else. -/
theorem exactlyOneResponse : Obligations.ExactlyOneResponse := by
  intro i s t h
  by_cases ha : accepts s.life i = true
  · rw [if_pos ha]
    exact exec_responds_once_of_accepts ha h
  · rw [if_neg ha]
    obtain ⟨why, rfl⟩ := exec_eq_refuse_of_not_accepts ha h
    exact ⟨refuse_refused s why, refuse_responses s why⟩

end Sys2Proof.Machine
end

section
/-! The mixed-width views of four bytes (spec/20_memory.md R45). -/

namespace Sys2Proof.Machine

theorem groupBigEndian_four (w x y z : Byte) :
    groupBigEndian [w, x, y, z] =
      w.toNat * 2 ^ 24 + x.toNat * 2 ^ 16 + y.toNat * 2 ^ 8 + z.toNat := by
  simp only [groupBigEndian, List.length_cons, List.length_nil]
  omega

/-- The word is read in the opposite order: the last byte is the most significant. -/
theorem groupLittleEndian_four (w x y z : Byte) :
    groupLittleEndian [w, x, y, z] =
      z.toNat * 2 ^ 24 + y.toNat * 2 ^ 16 + x.toNat * 2 ^ 8 + w.toNat := by
  simp only [groupLittleEndian]
  omega

/-- Settles O42: a per-LED frame is the four bytes header, blue, green, red, and the start frame is
four zeros. -/
theorem mixedWidthViews : Obligations.MixedWidthViews :=
  ⟨fun c b5 => ⟨groupBigEndian_four (header b5) c.b c.g c.r,
    groupLittleEndian_four (header b5) c.b c.g c.r⟩, by decide, by decide⟩

end Sys2Proof.Machine
end

section
/-! The fields of a packed word, and a word under a mask of whole fields
(spec/30_encoding.md R59). -/

namespace Sys2Proof

/-- Bits `start` and up of a word are `x` if each of them is. -/
theorem extractLsb'_eq_of_getLsbD {start n : Nat} {w : Word} {x : BitVec n}
    (h : ∀ j < n, w.getLsbD (start + j) = x.getLsbD j) : w.extractLsb' start n = x := by
  apply BitVec.eq_of_getLsbD_eq
  intro j hj
  simp only [BitVec.getLsbD_extractLsb', hj, decide_true, Bool.true_and, h j hj]

section
variable (op : BitVec 4) (ia ib : Index) (f : Bool) (c : Color)

@[simp] theorem fieldIA_packFields : fieldIA (packFields op ia ib f c) = ia :=
  extractLsb'_eq_of_getLsbD fun j hj => by grind [packFields_getLsbD]

@[simp] theorem fieldIB_packFields : fieldIB (packFields op ia ib f c) = ib :=
  extractLsb'_eq_of_getLsbD fun j hj => by grind [packFields_getLsbD]

@[simp] theorem fieldF_packFields : fieldF (packFields op ia ib f c) = f :=
  packFields_getLsbD op ia ib f c 24 (by decide)

@[simp] theorem fieldColor_packFields : fieldColor (packFields op ia ib f c) = c := by
  obtain ⟨r, g, b⟩ := c
  unfold fieldColor
  congr 1 <;> exact extractLsb'_eq_of_getLsbD fun j hj => by grind [packFields_getLsbD]

end

/-- The bits of the operand fields that are chosen: IA, IB, F, and the three channels together. -/
def operandMask (ia ib f c : Bool) : Word :=
  packFields 0 (BitVec.fill 16 ia) (BitVec.fill 16 ib) f
    ⟨BitVec.fill 8 c, BitVec.fill 8 c, BitVec.fill 8 c⟩

/-- An opcode packed with the chosen fields of `w` is the opcode's word with the bits of those fields
copied from `w`. -/
theorem packFields_operands (op : BitVec 4) (ia ib f c : Bool) (w : Word) :
    packFields op (if ia then fieldIA w else 0) (if ib then fieldIB w else 0) (f && fieldF w)
        (if c then fieldColor w else noColor) =
      packFields op 0 0 false noColor ||| (w &&& operandMask ia ib f c) := by
  apply BitVec.eq_of_getLsbD_eq
  intro j hj
  rw [BitVec.getLsbD_or, BitVec.getLsbD_and, operandMask]
  simp only [packFields_getLsbD _ _ _ _ _ _ hj]
  grind [fieldIA, fieldIB, fieldF, fieldColor, noColor]

end Sys2Proof
end

section
/-! The rows of the opcode table and the commands (spec/30_encoding.md R63 to R66): a row matches the
words of the commands it builds and no others, and no word matches two rows. -/

namespace Sys2Proof

variable {row row' : OpcodeRow} {rows : List OpcodeRow} {w : Word} {i : Instr}

/-! ### One row -/

theorem OpcodeRow.matches_iff : row.matches w = true ↔ w &&& row.mask = row.pattern := by
  simp only [OpcodeRow.matches, beq_iff_eq]

theorem pattern_and_mask : ∀ row ∈ opcodeTable, row.pattern &&& row.mask = row.pattern := by
  decide

theorem mask_opcode : ∀ row ∈ opcodeTable, row.mask.extractLsb' 60 4 = BitVec.allOnes 4 := by
  decide

/-- A command packed from fields of `w` has the row's pattern under the row's mask, and the bits of `w`
elsewhere. -/
theorem packFields_eq_pattern_or {pattern mask : Word} (op : BitVec 4) (ia ib f c : Bool) (w : Word)
    (hp : pattern = packFields op 0 0 false noColor) (hm : ~~~mask = operandMask ia ib f c) :
    packFields op (if ia then fieldIA w else 0) (if ib then fieldIB w else 0) (f && fieldF w)
        (if c then fieldColor w else noColor) = pattern ||| (w &&& ~~~mask) := by
  rw [hp, hm]
  exact packFields_operands op ia ib f c w

/-- The word of the command a row builds is the row's pattern, with the bits the mask leaves open
copied from the word it is built from. -/
theorem encode_build (w : Word) : ∀ row ∈ opcodeTable,
    encode (row.build w) = row.pattern ||| (w &&& ~~~row.mask) := by
  simp only [opcodeTable, List.forall_mem_cons]
  refine ⟨?_, ?_, ?_, ?_, ?_, ?_, ?_, ?_, ?_, List.forall_mem_nil _⟩
  · exact packFields_eq_pattern_or 0x1 true false false false w (by decide) (by decide)
  · exact packFields_eq_pattern_or 0x2 true false false true w (by decide) (by decide)
  · exact packFields_eq_pattern_or 0x3 true true false true w (by decide) (by decide)
  · exact packFields_eq_pattern_or 0x4 false false false true w (by decide) (by decide)
  · exact packFields_eq_pattern_or 0x5 false false false false w (by decide) (by decide)
  · exact packFields_eq_pattern_or 0x6 false false true false w (by decide) (by decide)
  · exact packFields_eq_pattern_or 0x7 false false false false w (by decide) (by decide)
  · exact packFields_eq_pattern_or 0x8 false false false false w (by decide) (by decide)
  · exact packFields_eq_pattern_or 0x9 false false false false w (by decide) (by decide)

/-- The key to both directions of the round trip: a row matches a word exactly when the word is the one
that spells the command the row builds from it. -/
theorem matches_iff_encode_build (h : row ∈ opcodeTable) :
    row.matches w = true ↔ encode (row.build w) = w := by
  rw [OpcodeRow.matches_iff, encode_build w row h]
  constructor
  · intro hw
    rw [← hw, ← BitVec.and_or_distrib_left, BitVec.or_not_self, BitVec.and_allOnes]
  · intro hw
    calc w &&& row.mask = (row.pattern ||| (w &&& ~~~row.mask)) &&& row.mask := by rw [hw]
      _ = row.pattern &&& row.mask := by
        simp [BitVec.and_or_distrib_right, BitVec.and_assoc, BitVec.and_comm (~~~row.mask)]
      _ = row.pattern := pattern_and_mask row h

/-- Every command has a row, which builds it from its word. -/
theorem exists_build_encode (i : Instr) : ∃ row ∈ opcodeTable, i = row.build (encode i) := by
  cases i <;> simp [opcodeTable, encode]

/-! ### The table -/

theorem opcode_of_matches (h : row ∈ opcodeTable) (hw : row.matches w = true) :
    row.pattern.extractLsb' 60 4 = w.extractLsb' 60 4 := by
  rw [← OpcodeRow.matches_iff.1 hw, BitVec.extractLsb'_and, mask_opcode row h,
    BitVec.and_allOnes]

theorem opcodes_nodup : (opcodeTable.map fun row => row.pattern.extractLsb' 60 4).Nodup := by
  decide

/-- No word matches two rows, since the rows' opcodes differ. -/
theorem matches_unique (h : row ∈ opcodeTable) (h' : row' ∈ opcodeTable)
    (hw : row.matches w = true) (hw' : row'.matches w = true) : row = row' :=
  List.inj_on_of_nodup_map opcodes_nodup h h'
    ((opcode_of_matches h hw).trans (opcode_of_matches h' hw').symm)

theorem decodeWith_eq_reserved_iff :
    decodeWith rows w = .reservedOrMalformed ↔ ∀ row ∈ rows, ¬ row.matches w = true := by
  induction rows with
  | nil => simp [decodeWith]
  | cons row rows ih => cases hw : row.matches w <;> simp [decodeWith, hw, ih]

theorem exists_matches_of_decodeWith_eq_command (h : decodeWith rows w = .command i) :
    ∃ row ∈ rows, row.matches w = true ∧ i = row.build w := by
  induction rows with
  | nil => simp [decodeWith] at h
  | cons row rows ih =>
    cases hw : row.matches w with
    | true => exact ⟨row, by simp, hw, by simpa [decodeWith, hw, eq_comm] using h⟩
    | false =>
      obtain ⟨row', hmem, hrow'⟩ := ih (by simpa [decodeWith, hw] using h)
      exact ⟨row', .tail _ hmem, hrow'⟩

theorem decode_eq_reserved_iff :
    decode w = .reservedOrMalformed ↔ ∀ row ∈ opcodeTable, ¬ row.matches w = true :=
  decodeWith_eq_reserved_iff

/-- The order of the rows does not matter, since at most one of them matches. -/
theorem decode_eq_command_iff :
    decode w = .command i ↔ ∃ row ∈ opcodeTable, row.matches w = true ∧ i = row.build w := by
  refine ⟨exists_matches_of_decodeWith_eq_command, ?_⟩
  rintro ⟨row, hmem, hw, rfl⟩
  cases hd : decode w with
  | reservedOrMalformed => exact absurd hw (decode_eq_reserved_iff.1 hd row hmem)
  | command i =>
    obtain ⟨row', hmem', hw', rfl⟩ := exists_matches_of_decodeWith_eq_command hd
    rw [matches_unique hmem hmem' hw hw']

/-! ### The statements about the decoder -/

/-- Settles O3: the row of a command builds it from its word, so it matches that word. -/
theorem decodeOfEncodeIsIdentity : Obligations.DecodeOfEncodeIsIdentity := by
  intro i
  obtain ⟨row, hmem, hi⟩ := exists_build_encode i
  have hw : row.matches (encode i) = true :=
    (matches_iff_encode_build hmem).2 (congrArg encode hi.symm)
  exact decode_eq_command_iff.2 ⟨row, hmem, hw, hi⟩

/-- Settles O4: the command came from a row that matches the word. -/
theorem encodeOfDecodeIsIdentity : Obligations.EncodeOfDecodeIsIdentity := by
  intro w i h
  obtain ⟨row, hmem, hw, rfl⟩ := decode_eq_command_iff.1 h
  exact (matches_iff_encode_build hmem).1 hw

/-- Settles O2: what the decoder answers is said by the rows that match, and the table's nine rows are
the masks, matches and fields of the statement. -/
theorem matchAndMaskDecideTheCommand : Obligations.MatchAndMaskDecideTheCommand := by
  intro w
  simp only [decode_eq_command_iff, decode_eq_reserved_iff, OpcodeRow.matches_iff]
  simp [opcodeTable, fieldIA, fieldIB, fieldF, fieldColor]

/-- Settles O1: closed words, each decoded by evaluating the table. -/
theorem sampleWordsDecode : Obligations.SampleWordsDecode := by
  unfold Obligations.SampleWordsDecode
  decide

end Sys2Proof
end

section
/-! A step that takes a word the decoder refuses (spec/30_encoding.md R65, R66). -/

namespace Sys2Proof.Machine

variable {s : State} {r : Request} {rest : List Request} {w : Word}

/-- R63, R65: the opcodes of the table are 0x1 to 0x9. -/
theorem table_opcode_bounds : ∀ row ∈ opcodeTable,
    1 ≤ (row.pattern.extractLsb' 60 4).toNat ∧ (row.pattern.extractLsb' 60 4).toNat ≤ 9 := by
  decide

theorem decode_eq_reserved_of_opcode
    (hop : w.extractLsb' 60 4 = 0x0 ∨ 0xA ≤ (w.extractLsb' 60 4).toNat) :
    decode w = .reservedOrMalformed := by
  refine decode_eq_reserved_iff.2 fun row hmem hw => ?_
  have hbounds := table_opcode_bounds row hmem
  rw [opcode_of_matches hmem hw] at hbounds
  rcases hop with h0 | hA
  · simp [h0] at hbounds
  · omega

/-- R66, R34: the step when the oldest request's word is no command. -/
theorem step_eq_refuse_takeRequest (h : s.requests = r :: rest)
    (hw : decode r.word = .reservedOrMalformed) :
    step s = .next (refuse .reservedOrMalformed (takeRequest r s)) := by
  simp only [step, nextRequest_eq_some_of_requests_cons h, hw]

/-- Settles O8: the step refuses on the state with the request taken. -/
theorem stepRefusesMalformedWord : Obligations.StepRefusesMalformedWord := by
  intro s r rest h hw
  rw [step_eq_refuse_takeRequest h hw, takeRequest_of_requests_cons h, refuse_eq]

/-- Settles O5: no row has such an opcode, so the word is refused and O8 says what the step does. -/
theorem reservedOpcodesAreRefused : Obligations.ReservedOpcodesAreRefused := by
  intro w hop
  have hw := decode_eq_reserved_of_opcode hop
  refine ⟨hw, fun s r rest h hr => ?_⟩
  exact stepRefusesMalformedWord s r rest h (hr ▸ hw)

end Sys2Proof.Machine
end

section
/-! The assembler of operands (spec/30_encoding.md R71): a line assembles exactly when its operands
fit, and an operand that fits is kept by its field. -/

namespace Sys2Proof.Machine

variable {l : SourceLine} {i j r g b f : Nat}

/-- A line whose check is the bounds `p` assembles to its command within them, and not outside. -/
theorem assembleLine_of_wellFormed_iff {p kept : Prop} [Decidable p] (hp : l.wellFormed = true ↔ p)
    (hkept : p → assembleLine l = some (instrOfLine l) → kept) :
    if p then kept else assembleLine l = none := by
  split
  next h => exact hkept h (if_pos (hp.2 h))
  next h => exact if_neg (mt hp.1 h)

theorem toNat_index_of_le (h : i ≤ 65535) : (BitVec.ofNat 16 i).toNat = i := by
  rw [BitVec.toNat_ofNat]
  omega

theorem toNat_channel_of_le (h : r ≤ 255) : (BitVec.ofNat 8 r).toNat = r := by
  rw [BitVec.toNat_ofNat]
  omega

/-! ### When a line is well-formed -/

theorem get_wellFormed_iff : (SourceLine.get i).wellFormed = true ↔ i ≤ 65535 := by
  simp [SourceLine.wellFormed, fitsIndex]

theorem set_wellFormed_iff : (SourceLine.set i r g b).wellFormed = true ↔
    i ≤ 65535 ∧ r ≤ 255 ∧ g ≤ 255 ∧ b ≤ 255 := by
  simp [SourceLine.wellFormed, fitsIndex, fitsChannel, and_assoc]

theorem setRange_wellFormed_iff : (SourceLine.setRange i j r g b).wellFormed = true ↔
    i ≤ 65535 ∧ j ≤ 65535 ∧ r ≤ 255 ∧ g ≤ 255 ∧ b ≤ 255 := by
  simp [SourceLine.wellFormed, fitsIndex, fitsChannel, and_assoc]

theorem setAll_wellFormed_iff : (SourceLine.setAll r g b).wellFormed = true ↔
    r ≤ 255 ∧ g ≤ 255 ∧ b ≤ 255 := by
  simp [SourceLine.wellFormed, fitsChannel, and_assoc]

theorem setAutoshow_wellFormed_iff : (SourceLine.setAutoshow f).wellFormed = true ↔ f ≤ 1 := by
  simp [SourceLine.wellFormed, fitsFlag]

theorem new_wellFormed_iff {n : Int} {br k : Option Int} {a p q : Option Nat} :
    (SourceLine.new n br a p q k).wellFormed = true ↔ ∀ f, a = some f → f ≤ 1 := by
  cases a <;> simp [SourceLine.wellFormed, fitsFlag]

/-- Settles O6: the check of each form is the statement's bounds, and a number within the bound of its
field is the field's value. NEW's record is `recordOf`, each of whose fields depends on one operand. -/
theorem assemblerKeepsOperands : Obligations.AssemblerKeepsOperands := by
  refine ⟨fun i => ?_, fun i r g b => ?_, fun i j r g b => ?_, fun r g b => ?_, fun f => ?_, rfl, rfl,
    rfl, fun n br a p q k => ?_⟩
  · exact assembleLine_of_wellFormed_iff get_wellFormed_iff fun hi hl =>
      ⟨_, toNat_index_of_le hi, hl⟩
  · exact assembleLine_of_wellFormed_iff set_wellFormed_iff fun ⟨hi, hr, hg, hb⟩ hl =>
      ⟨_, colorOfNats r g b, toNat_index_of_le hi, toNat_channel_of_le hr, toNat_channel_of_le hg,
        toNat_channel_of_le hb, hl⟩
  · exact assembleLine_of_wellFormed_iff setRange_wellFormed_iff fun ⟨hi, hj, hr, hg, hb⟩ hl =>
      ⟨_, _, colorOfNats r g b, toNat_index_of_le hi, toNat_index_of_le hj, toNat_channel_of_le hr,
        toNat_channel_of_le hg, toNat_channel_of_le hb, hl⟩
  · exact assembleLine_of_wellFormed_iff setAll_wellFormed_iff fun ⟨hr, hg, hb⟩ hl =>
      ⟨colorOfNats r g b, toNat_channel_of_le hr, toNat_channel_of_le hg, toNat_channel_of_le hb, hl⟩
  · exact assembleLine_of_wellFormed_iff setAutoshow_wellFormed_iff fun _ hl => hl
  · refine assembleLine_of_wellFormed_iff new_wellFormed_iff fun _ hl =>
      ⟨recordOf n br a p q k, hl, rfl, ?_, ?_, ?_, ?_, ?_, ?_, ?_, ?_⟩
    · rintro x rfl; rfl
    · rintro rfl; rfl
    · rintro f rfl; exact beq_iff_eq
    · rintro rfl; rfl
    · rintro x rfl; rfl
    · rintro x rfl; rfl
    · rintro x rfl; rfl
    · rintro rfl; rfl

end Sys2Proof.Machine
end

section
/-! The parts of a frame: its length determines the number of LEDs, and its LED frames their colours
and the brightness (spec/30_encoding.md R73 to R80). -/

namespace Sys2Proof.Machine

variable {cs ds : List Color} {b5 d5 : Bright}

/-! ### Lengths -/

/-- The least number whose sixteenfold is at least `n - 1` (R76). -/
theorem endFrameLen_le_iff (n k : Nat) : endFrameLen n ≤ k ↔ n ≤ 16 * k + 1 := by
  unfold endFrameLen
  omega

/-- Settles O36: `endFrameLen_le_iff`, with N - 1 written as the statement writes it. -/
theorem endFrameLengthIsTheCeiling : Obligations.EndFrameLengthIsTheCeiling := by
  refine ⟨rfl, fun n => ⟨rfl, fun hn k => ?_, fun k => ?_⟩⟩
  · rw [endFrameLen_le_iff]
    omega
  · rw [endFrameLen_le_iff]
    omega

/-- R78: ENC has L(N) bytes. -/
theorem enc_length (cs : List Color) (b5 : Bright) : (enc cs b5).length = frameLen cs.length := by
  simp only [enc, List.length_append, startFrame_length, ledFrames_length, endFrame_length, frameLen]

theorem frameLen_injective : Function.Injective frameLen := by
  intro m n h
  unfold frameLen endFrameLen at h
  omega

/-! ### The end frame -/

theorem enc_drop_eq_endFrame (cs : List Color) (b5 : Bright) :
    (enc cs b5).drop (4 + 4 * cs.length) = endFrame cs.length :=
  List.drop_left' (by rw [List.length_append, startFrame_length, ledFrames_length])

/-- Settles O40: the bytes past the LED frames are the end frame. -/
theorem endFrameIsZero : Obligations.EndFrameIsZero :=
  ⟨enc_drop_eq_endFrame, fun _ => rfl⟩

/-! ### The LED frames -/

theorem header_setWidth (b5 : Bright) : (header b5).setWidth 5 = b5 := by
  simp [header, BitVec.setWidth_or]

theorem header_injective : Function.Injective header :=
  Function.LeftInverse.injective header_setWidth

theorem color_bright_of_ledFrame_eq {c d : Color} (h : ledFrame c b5 = ledFrame d d5) :
    c = d ∧ b5 = d5 := by
  cases c
  cases d
  simp only [ledFrame, List.cons.injEq] at h
  obtain ⟨hheader, rfl, rfl, rfl, -⟩ := h
  exact ⟨rfl, header_injective hheader⟩

/-- The LED frames determine the colours, and the brightness if there is one. -/
theorem colors_bright_of_ledFrames_eq (h : cs.flatMap (ledFrame · b5) = ds.flatMap (ledFrame · d5)) :
    cs = ds ∧ (cs ≠ [] → b5 = d5) := by
  induction cs generalizing ds with
  | nil =>
    cases ds with
    | nil => simp
    | cons d ds => simp [ledFrame] at h
  | cons c cs ih =>
    cases ds with
    | nil => simp [ledFrame] at h
    | cons d ds =>
      rw [List.flatMap_cons, List.flatMap_cons] at h
      obtain ⟨hfirst, hrest⟩ := List.append_inj h rfl
      obtain ⟨rfl, rfl⟩ := color_bright_of_ledFrame_eq hfirst
      exact ⟨by rw [(ih hrest).1], fun _ => rfl⟩

/-- Settles O41: equal frames have equally many LEDs, so their LED frames are equal. -/
theorem framesDetermineTheirColors : Obligations.FramesDetermineTheirColors := by
  intro cs ds b5 d5 h
  have hlen : cs.length = ds.length := by
    apply frameLen_injective
    rw [← enc_length cs b5, ← enc_length ds d5, h]
  unfold enc at h
  rw [hlen] at h
  exact colors_bright_of_ledFrames_eq (List.append_cancel_left (List.append_cancel_right h))

end Sys2Proof.Machine
end

section
/-! The colour buffer commands (spec/40_buffer_ops.md): what each does while LIFE = OPEN, and the
autoshow tail that ends SET, SET_RANGE and SET_ALL. -/

namespace Sys2Proof.Machine

variable {i : Instr} {s t : State} {index : Index}

/-! ### The range clamp (R82) -/

/-- Settles O25: the upper bound is the larger of the two clamped operands. -/
theorem rangeClampIsHalfOpen : Obligations.RangeClampIsHalfOpen := by
  intro start stop n
  rw [rangeClamp_fst, rangeClamp_snd]
  refine ⟨rfl, ?_, by omega, by omega⟩
  split <;> omega

theorem fillSlots_filledBetween (lo hi : Nat) (c : Color) (slots : List Color) :
    FilledBetween lo hi c slots (fillSlots lo hi c slots) :=
  fillSlots_getElem? lo hi c slots

/-- SET_RANGE's fill is R89's: where the clamp raised the upper bound to the lower one, both ranges
are empty. -/
theorem fillSlots_rangeClamp_filledBetween (start stop n : Nat) (c : Color) (slots : List Color) :
    FilledBetween (min start n) (min stop n) c slots
      (fillSlots (rangeClamp start stop n).1 (rangeClamp start stop n).2 c slots) := by
  intro k
  have hbounds : (min start n ≤ k ∧ k < max (min start n) (min stop n)) ↔
      (min start n ≤ k ∧ k < min stop n) := by omega
  rw [fillSlots_getElem?, rangeClamp_fst, rangeClamp_snd]
  simp only [hbounds]

/-! ### GET and the index check (R83, R84) -/

theorem inRange_iff {n : Index} : inRange index n = true ↔ index.toNat < n.toNat :=
  decide_eq_true_iff

theorem exec_getSlot_of_lt (ho : s.life = .lifeOpen) (hi : index.toNat < s.ledCount.toNat) :
    exec (.getSlot index) s = .next (complete (.color (packColor (readSlot index s))) s) :=
  (whenOpen_open s _ ho).trans (if_pos (inRange_iff.2 hi))

theorem exec_getSlot_of_le (ho : s.life = .lifeOpen) (hi : s.ledCount.toNat ≤ index.toNat) :
    exec (.getSlot index) s = .next (raise (.indexOutOfRange index) s) :=
  (whenOpen_open s _ ho).trans (if_neg fun h => hi.not_gt (inRange_iff.1 h))

theorem exec_setSlot_of_le (c : Color) (ho : s.life = .lifeOpen)
    (hi : s.ledCount.toNat ≤ index.toNat) :
    exec (.setSlot index c) s = .next (raise (.indexOutOfRange index) s) :=
  (whenOpen_open s _ ho).trans (if_neg fun h => hi.not_gt (inRange_iff.1 h))

/-- Settles O56: the slot that GET reads is the one that holds `c`. -/
theorem getCompletesInRange : Obligations.GetCompletesInRange := by
  intro i c s ho hi hc
  rw [exec_getSlot_of_lt ho hi, readSlot_eq i s c hc, complete_eq]
  rfl

/-- Settles O26: with N slots, the slot of an index below N exists, and O56 says what GET does. -/
theorem getAnswersTheSlot : Obligations.GetAnswersTheSlot := by
  intro i s ho hlen hi
  have hc : s.color[i.toNat]? = some (s.color[i.toNat]'(hlen ▸ hi)) :=
    List.getElem?_eq_getElem (hlen ▸ hi)
  exact ⟨_, hc, getCompletesInRange i _ s ho hi hc⟩

/-- Settles O27: past the last slot both commands raise, and nothing else. -/
theorem indexOutOfRangeChangesNothing : Obligations.IndexOutOfRangeChangesNothing := by
  intro i c s ho hi
  rw [exec_getSlot_of_le ho hi, exec_setSlot_of_le c ho hi, raise_open _ _ ho]
  exact ⟨rfl, rfl⟩

/-! ### The autoshow tail (R98, R99) -/

theorem autoshowTail_of_autoshow_eq_false (ha : s.autoshow = false) :
    autoshowTail s = .next (complete .empty s) := by
  simp [autoshowTail, ha]

theorem autoshowTail_of_transport_ok {hd : Handle} (ha : s.autoshow = true)
    (htr : s.transport = .ok hd) :
    autoshowTail s = .next (complete .empty (logEvent (.wrote (currentFrame s) .ok) s)) := by
  simp [autoshowTail, ha, flush, htr]

/-- While LIFE = OPEN the error of a failed write is recorded in LAST_STATUS (R113). -/
theorem autoshowTail_of_transport_err {e : ErrorValue} (ho : s.life = .lifeOpen)
    (ha : s.autoshow = true) (htr : s.transport = .err e) :
    autoshowTail s = .next (respond .transportError (.error e) (setStatus .transportError
      (logEvent (.wrote (currentFrame s) (.err e)) s))) := by
  simp [autoshowTail, ha, flush, htr, raise, recordStatus, ho, CommandError.status,
    CommandError.data]

/-- The tail logs one write of the buffer's frame exactly when AUTOSHOW = 1. -/
theorem autoshowTail_txlog (h : autoshowTail s = .next t) :
    if s.autoshow = true then ∃ o, t.txlog = s.txlog ++ [.wrote (enc t.color t.bright) o]
    else t.txlog = s.txlog := by
  rcases autoshowTail_next h with ⟨ha, hf⟩ | ⟨ha, rfl⟩
  · rw [if_pos ha]
    rcases flush_next hf with ⟨_, -, rfl⟩ | ⟨e, -, rfl⟩
    · exact ⟨.ok, rfl⟩
    · exact ⟨.err e, by simp [currentFrame]⟩
  · simp [ha]

/-! ### SET, SET_RANGE and SET_ALL (R85 to R87) -/

theorem exec_setSlot_of_lt (c : Color) (ho : s.life = .lifeOpen)
    (hi : index.toNat < s.ledCount.toNat) :
    exec (.setSlot index c) s = autoshowTail (writeSlot index c s) :=
  (whenOpen_open s _ ho).trans (if_pos (inRange_iff.2 hi))

theorem exec_setRange_of_open (start stop : Index) (c : Color) (ho : s.life = .lifeOpen) :
    exec (.setRange start stop c) s =
      autoshowTail (writeRange (rangeClamp start.toNat stop.toNat s.ledCount.toNat).1
        (rangeClamp start.toNat stop.toNat s.ledCount.toNat).2 c s) :=
  whenOpen_open s _ ho

theorem exec_setAll_of_open (c : Color) (ho : s.life = .lifeOpen) :
    exec (.setAll c) s = autoshowTail (writeRange 0 s.ledCount.toNat c s) :=
  whenOpen_open s _ ho

/-- If the tail answers `f slots` on every buffer `slots`, then so do the three mutations, each on
the buffer with exactly its own slots written. -/
theorem mutations_of_autoshowTail {f : List Color → State} (ho : s.life = .lifeOpen)
    (htail : ∀ slots, autoshowTail { s with color := slots } = .next (f slots)) :
    (∀ (i : Index) (c : Color), i.toNat < s.ledCount.toNat →
      exec (.setSlot i c) s = .next (f (s.color.set i.toNat c))) ∧
    (∀ (a b : Index) (c : Color), ∃ slots : List Color,
      FilledBetween (min a.toNat s.ledCount.toNat) (min b.toNat s.ledCount.toNat) c s.color slots ∧
      exec (.setRange a b c) s = .next (f slots)) ∧
    (∀ c : Color, ∃ slots : List Color,
      FilledBetween 0 s.ledCount.toNat c s.color slots ∧
      exec (.setAll c) s = .next (f slots)) :=
  ⟨fun _ c hi => (exec_setSlot_of_lt c ho hi).trans (htail _),
    fun a b c => ⟨_, fillSlots_rangeClamp_filledBetween a.toNat b.toNat _ c _,
      (exec_setRange_of_open a b c ho).trans (htail _)⟩,
    fun c => ⟨_, fillSlots_filledBetween 0 _ c _, (exec_setAll_of_open c ho).trans (htail _)⟩⟩

/-- Settles O28: without autoshow the tail only completes. -/
theorem mutationsWithoutAutoshow : Obligations.MutationsWithoutAutoshow := by
  intro s ho ha
  exact mutations_of_autoshowTail (f := fun slots => complete .empty { s with color := slots }) ho
    fun _ => autoshowTail_of_autoshow_eq_false ha

/-- Settles O29: the tail logs the frame of the buffer it is given, and completes. -/
theorem mutationsWithAutoshow : Obligations.MutationsWithAutoshow := by
  intro s hd ho ha htr
  exact mutations_of_autoshowTail
    (f := fun slots => complete .empty
      (logEvent (.wrote (enc slots s.bright) .ok) { s with color := slots })) ho
    fun _ => autoshowTail_of_transport_ok ha htr

/-- Settles O30: the tail logs the failed write and raises; it does not take back the slots. -/
theorem mutationsWithFailingWrite : Obligations.MutationsWithFailingWrite := by
  intro s e ho ha htr
  exact mutations_of_autoshowTail
    (f := fun slots => respond .transportError (.error e) (setStatus .transportError
      (logEvent (.wrote (enc slots s.bright) (.err e)) { s with color := slots }))) ho
    fun _ => autoshowTail_of_transport_err ho ha htr

/-- Settles O31: with start 0 and an end of at least N the clamp gives the bounds 0 and N. -/
theorem setAllIsTheFullRange : Obligations.SetAllIsTheFullRange := by
  intro s e c ho he
  have hlo : (rangeClamp (0 : Index).toNat e.toNat s.ledCount.toNat).1 = 0 := by
    rw [rangeClamp_fst]
    exact Nat.zero_min _
  have hhi : (rangeClamp (0 : Index).toNat e.toNat s.ledCount.toNat).2 = s.ledCount.toNat := by
    rw [rangeClamp_snd, Nat.min_eq_right he]
    simp
  rw [exec_setAll_of_open c ho, exec_setRange_of_open 0 e c ho, hlo, hhi]

/-- Settles O32: the tail keeps the slots, and every slot below the clamp's upper bound exists. -/
theorem rangeExactness : Obligations.RangeExactness := by
  intro s t a b c ho hlen h k
  rw [exec_setRange_of_open a b c ho] at h
  obtain ⟨hcolor, -⟩ := autoshowTail_keeps h
  rw [hcolor, writeRange_color, fillSlots_getElem?]
  refine ite_congr rfl (fun ⟨_, hk⟩ => ?_) fun _ => rfl
  obtain ⟨-, -, -, hn⟩ := rangeClampIsHalfOpen a.toNat b.toNat s.ledCount.toNat
  rw [List.getElem?_eq_getElem (by omega), Option.map_some]

/-! ### Every buffer command -/

/-- A mutation is a write of slots followed by the autoshow tail. -/
theorem exec_eq_autoshowTail_of_mutates (ho : s.life = .lifeOpen)
    (hm : mutates s.ledCount i = true) :
    ∃ slots, exec i s = autoshowTail { s with color := slots } := by
  cases i with
  | setSlot index c => exact ⟨_, exec_setSlot_of_lt c ho (of_decide_eq_true hm)⟩
  | setRange start stop c => exact ⟨_, exec_setRange_of_open start stop c ho⟩
  | setAll c => exact ⟨_, exec_setAll_of_open c ho⟩
  | getSlot | showFrame | setAutoshow | closeStrip | newStrip | encodeFrame => cases hm

/-- GET, and SET past the last slot, perform no transport operation. -/
theorem txlog_eq_of_not_mutates (ho : s.life = .lifeOpen) (hb : isBufferCommand i = true)
    (hm : ¬ mutates s.ledCount i = true) (h : exec i s = .next t) : t.txlog = s.txlog := by
  cases i with
  | getSlot index =>
    rcases Nat.lt_or_ge index.toNat s.ledCount.toNat with hi | hi
    · cases (exec_getSlot_of_lt ho hi).symm.trans h
      rfl
    · cases (exec_getSlot_of_le ho hi).symm.trans h
      exact raise_txlog s _
  | setSlot index c =>
    have hi : s.ledCount.toNat ≤ index.toNat := Nat.le_of_not_lt fun hi => hm (decide_eq_true hi)
    cases (exec_setSlot_of_le c ho hi).symm.trans h
    exact raise_txlog s _
  | setRange | setAll => exact absurd rfl hm
  | showFrame | setAutoshow | closeStrip | newStrip | encodeFrame => cases hb

/-- Settles O33: a mutation ends with the autoshow tail, and the other buffer commands have none. -/
theorem oneTransmissionPerMutation : Obligations.OneTransmissionPerMutation := by
  intro i s t ho hb h
  by_cases hm : mutates s.ledCount i = true
  · obtain ⟨slots, hexec⟩ := exec_eq_autoshowTail_of_mutates ho hm
    simpa [hm] using autoshowTail_txlog (hexec.symm.trans h)
  · rw [if_neg fun hboth => hm hboth.1]
    exact txlog_eq_of_not_mutates ho hb hm h

/-- A command other than NEW and CLOSE keeps the number of slots (R17). -/
theorem exec_keeps_color_length (hn : i ≠ .newStrip) (hc : i ≠ .closeStrip)
    (h : exec i s = .next t) : t.color.length = s.color.length := by
  cases exec_effect h with
  | refused | indexRejected => simp
  | recordRejected | openFailed | built => exact absurd rfl hn
  | closed => exact absurd rfl hc
  | completed _ hu | wrote _ hu | writeFailed _ hu =>
    obtain ⟨slots, flag, -, -, -, hlen, -⟩ := hu
    simpa using hlen

/-- Settles O34: O24 for the registers, which names NEW, CLOSE and SET_AUTOSHOW as the only
writers, and `exec_keeps_color_length` for the slots. -/
theorem bufferCommandsKeepRegisters : Obligations.BufferCommandsKeepRegisters := by
  intro i s t hb h
  have hn : i ≠ .newStrip := by rintro rfl; cases hb
  have hc : i ≠ .closeStrip := by rintro rfl; cases hb
  have ha : ∀ f, i ≠ .setAutoshow f := by rintro f rfl; cases hb
  obtain ⟨hcount, hbright, hclock, hport, hchip, hhandle, hlife, -, -, -, -, hauto⟩ :=
    controlRegistersAreReadOnly i s t h hn hc
  exact ⟨hcount, hbright, hauto ha, hclock, hport, hchip, hhandle, hlife,
    exec_keeps_color_length hn hc h⟩

/-! ### GET after SET (R92) -/

theorem color_getElem?_of_exec_setSlot {j : Index} {c d : Color} (ho : s.life = .lifeOpen)
    (hi : index.toNat < s.ledCount.toNat) (hj : s.color[j.toNat]? = some d)
    (h : exec (.setSlot index c) s = .next t) :
    t.color[j.toNat]? = some (if j = index then c else d) := by
  rw [exec_setSlot_of_lt c ho hi] at h
  obtain ⟨hcolor, -⟩ := autoshowTail_keeps h
  rw [hcolor, writeSlot_color]
  split
  case isTrue heq =>
    subst heq
    exact List.getElem?_set_self (List.getElem?_eq_some_iff.1 hj).1
  case isFalse hne =>
    rw [List.getElem?_set_ne fun heq => hne (BitVec.eq_of_toNat_eq heq.symm), hj]

/-- Settles O35: SET keeps LIFE and N (O34), and the slot GET reads is the one
`color_getElem?_of_exec_setSlot` names, which O56 says GET answers. -/
theorem getAfterSetReturnsTheColor : Obligations.GetAfterSetReturnsTheColor := by
  intro s t u i j c d ho _ hi hjd hj hset hget
  obtain ⟨hcount, -, -, -, -, -, -, hlife, -⟩ :=
    bufferCommandsKeepRegisters (.setSlot i c) s t rfl hset
  have hslot := color_getElem?_of_exec_setSlot ho hi hjd hset
  cases (getCompletesInRange j _ t (hlife.trans ho) (hcount ▸ hj) hslot).symm.trans hget
  by_cases h : j = i <;> simp [h]

end Sys2Proof.Machine
end

section
/-! The session that TXLOG ends with, and the frames written in it (spec/10_state.md R29, R30;
spec/41_encoder_ops.md R100). -/

namespace Sys2Proof.Machine

variable {i : Instr} {s t : State}

/-! ### The last session of a log -/

theorem lastSession_opened_ok (p : PortId) (q : ChipSelect) (k : Int) (es : List TxEvent) :
    lastSession (.opened p q k .ok :: es) =
      if lastSession es = [] then .opened p q k .ok :: es else lastSession es := by
  rw [lastSession]
  cases lastSession es <;> rfl

/-- The last session of a longer log is the one of the new events, if a session begins in them, and
otherwise the old one with the new events at its end. -/
theorem lastSession_append (xs ys : List TxEvent) :
    lastSession (xs ++ ys) =
      if lastSession ys = [] then (if lastSession xs = [] then [] else lastSession xs ++ ys)
      else lastSession ys := by
  induction xs with
  | nil => by_cases h : lastSession ys = [] <;> simp [lastSession, h]
  | cons x xs ih =>
    cases x with
    | wrote | closed => exact ih
    | opened p q k o =>
      cases o with
      | err => exact ih
      | ok =>
        rw [List.cons_append, lastSession_opened_ok, lastSession_opened_ok, ih]
        by_cases hys : lastSession ys = []
        · by_cases hxs : lastSession xs = [] <;> simp [hxs, hys]
        · simp [hys]

/-- A successful `open` begins a session, whatever was logged before it. -/
theorem lastSession_append_opened_ok (es : List TxEvent) (p : PortId) (q : ChipSelect) (k : Int) :
    lastSession (es ++ [.opened p q k .ok]) = [.opened p q k .ok] := by
  simp [lastSession_append, lastSession]

/-- A write belongs to the session that is open. -/
theorem lastSession_append_wrote {es : List TxEvent} (h : lastSession es ≠ []) (f : List Byte)
    (o : TxOutcome) : lastSession (es ++ [.wrote f o]) = lastSession es ++ [.wrote f o] := by
  simp [lastSession_append, lastSession, h]

/-! ### The invariant -/

/-- The invariant speaks of six fields only. -/
theorem FramesInv.congr (hs : FramesInv s) (hlife : t.life = s.life) (hlog : t.txlog = s.txlog)
    (hport : t.portId = s.portId) (hchip : t.chipSelect = s.chipSelect)
    (hclock : t.clockHz = s.clockHz) (hn : t.ledCount = s.ledCount) : FramesInv t := by
  simpa only [FramesInv, hlife, hlog, hport, hchip, hclock, hn] using hs

theorem FramesInv.logEvent_wrote (hs : FramesInv s) {f : List Byte} (o : TxOutcome)
    (hf : f.length = frameLen s.ledCount.toNat) : FramesInv (logEvent (.wrote f o) s) := by
  intro ho
  obtain ⟨hhead, hall⟩ := hs ho
  have hopen : lastSession s.txlog ≠ [] := by
    intro h
    simp [h] at hhead
  simp only [logEvent_txlog, lastSession_append_wrote hopen]
  refine ⟨?_, ?_⟩
  · rw [List.head?_append_of_ne_nil _ hopen]
    exact hhead
  · simpa [frameHasLength, hf] using hall

theorem buildInstance_framesInv (cfg : ConfigRecord) (hd : Handle) (s : State) :
    FramesInv (buildInstance cfg hd
      (logEvent (.opened cfg.portId cfg.chipSelect cfg.clockSpeedHz .ok) s)) := by
  intro _
  simp [lastSession_append_opened_ok, frameHasLength]

/-- While LIFE = OPEN a command prepares N slots, so that their frame has L(N) bytes. -/
theorem Prepares.currentFrame_length {u : State} (hb : BufferInv s) (hu : Prepares i s u) :
    (currentFrame u).length = frameLen u.ledCount.toNat := by
  obtain ⟨slots, flag, ho, -, -, hlen, -⟩ := hu
  obtain ⟨hcount, -⟩ := hb.1 ho
  simp only [currentFrame, enc_length, hlen, hcount]

theorem Prepares.framesInv {u : State} (hs : FramesInv s) (hu : Prepares i s u) : FramesInv u := by
  cases hu
  exact hs

theorem exec_keeps_framesInv (hb : BufferInv s) (hs : FramesInv s) (h : exec i s = .next t) :
    FramesInv t := by
  cases exec_effect h with
  | refused | recordRejected | indexRejected =>
    exact hs.congr (by simp) (by simp) (by simp) (by simp) (by simp) (by simp)
  | openFailed _ hno => exact fun ht => absurd (by simpa using ht) hno
  | built hd => exact buildInstance_framesInv s.cfgPort hd s
  | closed => exact fun ht => absurd ht (by simp)
  | completed _ hu => exact (hu.framesInv hs).congr rfl rfl rfl rfl rfl rfl
  | wrote _ hu => exact (hu.framesInv hs).logEvent_wrote .ok (hu.currentFrame_length hb)
  | writeFailed e hu =>
    exact ((hu.framesInv hs).logEvent_wrote (.err e) (hu.currentFrame_length hb)).congr
      (by simp) (by simp) (by simp) (by simp) (by simp) (by simp)

/-- Settles O19: a successful NEW logs the `open` of its own record, and a write logs the frame of N
slots, which O16's invariant counts. -/
theorem stepKeepsFrameLengths : Obligations.StepKeepsFrameLengths := by
  intro s t hb hs h
  exact (step_keeps (P := fun s => BufferInv s ∧ FramesInv s)
    (fun _ _ _ ⟨hb, hs⟩ h => ⟨exec_keeps_bufferInv hb h, exec_keeps_framesInv hb hs h⟩)
    (fun _ _ hs => hs) (fun _ _ hs => hs) ⟨hb, hs⟩ h).2

end Sys2Proof.Machine
end

section
/-! The bytes of an encoding by their offsets (spec/41_encoder_ops.md R100 to R102). -/

namespace Sys2Proof.Machine

/-- Settles O37: `enc_length`, with L(N) written out. -/
theorem encodingLength : Obligations.EncodingLength := enc_length

/-- R79: LED i's frame stands at offset 4 + 4i. -/
theorem enc_getElem?_ledFrame {cs : List Color} {i k : Nat} {c : Color} (b5 : Bright)
    (hc : cs[i]? = some c) (hk : k < 4) : (enc cs b5)[4 + 4 * i + k]? = (ledFrame c b5)[k]? := by
  obtain ⟨hi, -⟩ := List.getElem?_eq_some_iff.1 hc
  rw [Nat.add_assoc, enc_getElem?_led cs b5 _ (by omega), ledFrames_getElem? cs b5 i k hk, hc]
  rfl

/-- Settles O38: blue, green and red are bytes 1, 2 and 3 of the LED's frame. -/
theorem ledFrameOffsets : Obligations.LedFrameOffsets := fun _ b5 _ _ hc =>
  ⟨enc_getElem?_ledFrame b5 hc (by decide), enc_getElem?_ledFrame b5 hc (by decide),
    enc_getElem?_ledFrame b5 hc (by decide)⟩

/-- R75: the three high bits of a header are 1, and the five low bits the brightness. -/
theorem header_masks : ∀ b5 : Bright,
    header b5 &&& 0xE0 = 0xE0 ∧ header b5 &&& 0x1F = b5.setWidth 8 := by
  decide

theorem enc_take_eq_startFrame (cs : List Color) (b5 : Bright) : (enc cs b5).take 4 = startFrame := by
  rw [enc, List.append_assoc]
  exact List.take_left' startFrame_length

/-- Settles O39: byte 0 of an LED's frame is the header, and ENC begins with the start frame. -/
theorem headersAndStartFrame : Obligations.HeadersAndStartFrame := by
  refine fun cs b5 => ⟨fun i hi => ⟨header b5, ?_, header_masks b5⟩, enc_take_eq_startFrame cs b5⟩
  exact enc_getElem?_ledFrame (k := 0) b5 (List.getElem?_eq_getElem hi) (by decide)

end Sys2Proof.Machine
end

section
/-! The encoder commands ENCODE and SHOW (spec/41_encoder_ops.md R96, R97), and runs of commands that
keep the frame (R103). -/

namespace Sys2Proof.Machine

variable {i : Instr} {s t : State}

/-! ### ENCODE, SHOW and SET_AUTOSHOW while LIFE = OPEN -/

theorem exec_encodeFrame_of_open (ho : s.life = .lifeOpen) :
    exec .encodeFrame s = .next (complete (.bytes (currentFrame s)) s) :=
  whenOpen_open s _ ho

theorem exec_showFrame_of_open (ho : s.life = .lifeOpen) : exec .showFrame s = flush s :=
  whenOpen_open s _ ho

theorem exec_setAutoshow_of_open (flag : Bool) (ho : s.life = .lifeOpen) :
    exec (.setAutoshow flag) s = .next (complete .empty { s with autoshow := flag }) :=
  whenOpen_open s _ ho

theorem flush_of_transport_ok {hd : Handle} (htr : s.transport = .ok hd) :
    flush s = .next (complete .empty (logEvent (.wrote (currentFrame s) .ok) s)) := by
  simp only [flush, htr]

theorem flush_of_transport_err {e : ErrorValue} (htr : s.transport = .err e) :
    flush s =
      .next (raise (.transportError e) (logEvent (.wrote (currentFrame s) (.err e)) s)) := by
  simp only [flush, htr]

/-- Settles O43: ENCODE completes with the frame of the buffer. -/
theorem encodeAnswersTheFrame : Obligations.EncodeAnswersTheFrame := by
  intro s ho
  rw [exec_encodeFrame_of_open ho, complete_eq]
  rfl

/-- Settles O44: SHOW is Flush, which does not look at AUTOSHOW; by the transport's answer it completes
or raises. -/
theorem showTransmitsTheFrame : Obligations.ShowTransmitsTheFrame := by
  intro s ho
  refine ⟨fun hd htr => ?_, fun e htr => ?_⟩
  · rw [exec_showFrame_of_open ho, flush_of_transport_ok htr, complete_eq]
    rfl
  · rw [exec_showFrame_of_open ho, flush_of_transport_err htr,
      raise_open _ (logEvent _ s) ho]
    rfl

/-! ### Runs -/

/-- A property that every command of a run keeps, under the answer it gets, is kept by the run. -/
theorem runCommands_keeps {P : State → Prop} {run : List (Instr × TransportAnswer)}
    (hexec : ∀ x ∈ run, ∀ u v, P u → exec x.1 { u with transport := x.2 } = .next v → P v)
    (hs : P s) (h : runCommands run s = .next t) : P t := by
  induction run generalizing s with
  | nil =>
    cases h
    exact hs
  | cons x rest ih =>
    rw [runCommands] at h
    split at h
    next u hu =>
      exact ih (fun y hy => hexec y (.tail x hy)) (hexec x (.head rest) s u hs hu) h
    next => cases h
    next => cases h

theorem flush_color (h : flush s = .next t) : t.color = s.color := by
  rcases flush_next h with ⟨_, -, rfl⟩ | ⟨_, -, rfl⟩ <;> simp

/-- GET, SET_AUTOSHOW, ENCODE and SHOW keep the slots. -/
theorem exec_color_of_keepsFrame (hk : keepsFrame i = true) (ho : s.life = .lifeOpen)
    (h : exec i s = .next t) : t.color = s.color := by
  cases i with
  | getSlot index =>
    rcases Nat.lt_or_ge index.toNat s.ledCount.toNat with hi | hi
    · cases (exec_getSlot_of_lt ho hi).symm.trans h
      rfl
    · cases (exec_getSlot_of_le ho hi).symm.trans h
      exact raise_color s _
  | showFrame => exact flush_color ((exec_showFrame_of_open ho).symm.trans h)
  | setAutoshow flag =>
    cases (exec_setAutoshow_of_open flag ho).symm.trans h
    rfl
  | encodeFrame =>
    cases (exec_encodeFrame_of_open ho).symm.trans h
    rfl
  | setSlot | setRange | setAll | closeStrip | newStrip => cases hk

/-- They keep BRIGHT and LIFE too (O24), and so the frame. -/
theorem exec_currentFrame_of_keepsFrame (hk : keepsFrame i = true) (ho : s.life = .lifeOpen)
    (h : exec i s = .next t) : t.life = .lifeOpen ∧ currentFrame t = currentFrame s := by
  have hn : i ≠ .newStrip := by rintro rfl; cases hk
  have hc : i ≠ .closeStrip := by rintro rfl; cases hk
  obtain ⟨-, hbright, -, -, -, -, hlife, -⟩ := controlRegistersAreReadOnly i s t h hn hc
  refine ⟨hlife.trans ho, ?_⟩
  rw [currentFrame, hbright, exec_color_of_keepsFrame hk ho h, currentFrame]

/-- Settles O45: an induction over the run with LIFE = OPEN and the frame as the invariant; then O43
says what ENCODE answers. -/
theorem framesRepeatWithoutMutation : Obligations.FramesRepeatWithoutMutation := by
  intro run s t ho hrun h
  obtain ⟨hto, hframe⟩ : t.life = .lifeOpen ∧ currentFrame t = currentFrame s := by
    refine runCommands_keeps (P := fun u => u.life = .lifeOpen ∧ currentFrame u = currentFrame s)
      (fun x hx u v ⟨huo, hu⟩ hv => ?_) ⟨ho, rfl⟩ h
    obtain ⟨hvo, hvu⟩ :=
      exec_currentFrame_of_keepsFrame (s := { u with transport := x.2 }) (hrun x hx) huo hv
    exact ⟨hvo, hvu.trans hu⟩
  refine ⟨hframe, _, exec_encodeFrame_of_open hto, ?_⟩
  rw [hframe]
  rfl

end Sys2Proof.Machine
end

section
/-! The lifecycle and control commands NEW, SET_AUTOSHOW and CLOSE (spec/42_control_ops.md), and the
commands outside the lifecycle (spec/60_exceptions.md R125). -/

namespace Sys2Proof.Machine

variable {i : Instr} {s : State} {cfg : ConfigRecord}

/-! ### Outside the lifecycle (R107, R111) -/

/-- Every command but NEW begins with `require_open`. -/
theorem exec_eq_whenOpen (s : State) (hi : i ≠ .newStrip) : ∃ body, exec i s = whenOpen s body := by
  cases i with
  | newStrip => exact absurd rfl hi
  | _ => exact ⟨_, rfl⟩

theorem exec_newStrip_of_open (ho : s.life = .lifeOpen) :
    exec .newStrip s = .next (refuse .alreadyOpen s) :=
  if_pos ho

/-- Settles O10: NEW's own check refuses it while LIFE = OPEN, and `require_open` every other command
while LIFE is not OPEN. -/
theorem commandsOutsideLifecycleAreRefused : Obligations.CommandsOutsideLifecycleAreRefused := by
  refine ⟨fun s ho => exec_newStrip_of_open ho, fun i s hi hno => ?_⟩
  obtain ⟨body, hbody⟩ := exec_eq_whenOpen s hi
  rw [hbody, whenOpen_not_open s body hno, refuse_eq]

/-! ### NEW while LIFE is not OPEN (R104, R105) -/

/-- NEW's checks are R68's bounds. -/
theorem configError_eq_none_iff :
    configError cfg = none ↔ 1 ≤ cfg.ledCount ∧ cfg.ledCount ≤ 65535 ∧ 1 ≤ cfg.clockSpeedHz := by
  refine ⟨bounds_of_configError_eq_none, fun ⟨hlo, hhi, hclock⟩ => (configError_none cfg).2 ?_⟩
  simp [ConfigRecord.wellFormed, Config.maxLedCount, hlo, hhi, hclock]

theorem exec_newStrip_of_illegal {field : ConfigField} (hno : s.life ≠ .lifeOpen)
    (hf : configError s.cfgPort = some field) :
    exec .newStrip s = .next (raise (.invalidConfig field) s) := by
  simp [exec, execNew, hno, hf]

theorem exec_newStrip_of_transport_err {e : ErrorValue} (hno : s.life ≠ .lifeOpen)
    (hlegal : configError s.cfgPort = none) (ha : s.transport = .err e) :
    exec .newStrip s = .next (raise (.transportError e) (logEvent (.opened s.cfgPort.portId
      s.cfgPort.chipSelect s.cfgPort.clockSpeedHz (.err e)) s)) := by
  simp [exec, execNew, openAndBuild, hno, hlegal, ha]

/-- Settles O49: N is the record's LED count, which its 16 bits do not cut. -/
theorem newBuildsTheInstance : Obligations.NewBuildsTheInstance := by
  intro s hd hno ha hlo hhi hclock
  have hn : (BitVec.ofInt 16 s.cfgPort.ledCount).toNat = s.cfgPort.ledCount.toNat :=
    toNat_ofInt_ledCount (by omega) hhi
  refine ⟨BitVec.ofInt 16 s.cfgPort.ledCount, by omega, ?_⟩
  rw [exec_newStrip_of_legal hno (configError_eq_none_iff.2 ⟨hlo, hhi, hclock⟩) ha, hn]
  rfl

/-- Settles O50: a record outside the bounds fails one of NEW's checks, and while LIFE is not OPEN the
error adds its response only. -/
theorem newRejectsIllegalRecords : Obligations.NewRejectsIllegalRecords := by
  intro s hno hbad
  have herr : configError s.cfgPort ≠ none := fun h => by
    obtain ⟨hlo, hhi, hclock⟩ := configError_eq_none_iff.1 h
    omega
  obtain ⟨field, hf⟩ := Option.ne_none_iff_exists'.1 herr
  rw [exec_newStrip_of_illegal hno hf, raise_not_open _ s hno]
  rfl

/-- Settles O51: NEW logs the failed open, and while LIFE is not OPEN the error adds its response
only. -/
theorem newFailsWithTheTransport : Obligations.NewFailsWithTheTransport := by
  intro s e hno ha hlo hhi hclock
  rw [exec_newStrip_of_transport_err hno (configError_eq_none_iff.2 ⟨hlo, hhi, hclock⟩) ha,
    raise_not_open _ (logEvent _ s) hno]
  rfl

/-! ### SET_AUTOSHOW and CLOSE (R108 to R110) -/

/-- Settles O53: the flag is written, and the command completes without a transmission. -/
theorem setAutoshowWritesTheFlag : Obligations.SetAutoshowWritesTheFlag := by
  intro flag s ho
  rw [exec_setAutoshow_of_open flag ho, complete_eq]

theorem exec_closeStrip_of_transport_ok {hd : Handle} (ho : s.life = .lifeOpen)
    (ha : s.transport = .ok hd) :
    exec .closeStrip s =
      .next (respond .ok .empty (discardInstance (logEvent (.closed .ok) s))) := by
  simp [exec, execClose, whenOpen_open s _ ho, ha]

theorem exec_closeStrip_of_transport_err {e : ErrorValue} (ho : s.life = .lifeOpen)
    (ha : s.transport = .err e) :
    exec .closeStrip s =
      .next (respond .transportError (.error e)
        (discardInstance (logEvent (.closed (.err e)) s))) := by
  simp [exec, execClose, whenOpen_open s _ ho, ha]

/-- Settles O54: both answers discard the instance, and differ in the event and the response only. -/
theorem closeReleasesTheTransport : Obligations.CloseReleasesTheTransport := by
  refine fun s ho => ⟨fun hd ha => ?_, fun e ha => ?_⟩
  · exact ⟨_, exec_closeStrip_of_transport_ok ho ha, by simp⟩
  · exact ⟨_, exec_closeStrip_of_transport_err ho ha, by simp⟩

end Sys2Proof.Machine
end

section
/-! The transport session that TXLOG shows (spec/60_exceptions.md R127, R129): each command's event
is one that the lifecycle allows, and leaves the session open exactly when the command leaves
LIFE = OPEN. -/

namespace Sys2Proof.Machine

variable {i : Instr} {s t u : State} {ev : TxEvent}

/-! ### Sessions -/

/-- Later events start from the session that the earlier ones left. -/
theorem sessionAfter_append (isOpen : Bool) (xs ys : List TxEvent) :
    sessionAfter isOpen (xs ++ ys) =
      (sessionAfter isOpen xs).bind fun stillOpen => sessionAfter stillOpen ys := by
  fun_induction sessionAfter isOpen xs with
  | case1 isOpen => rfl
  | case2 _ _ _ _ ih | case3 _ _ _ _ _ ih | case5 _ _ _ ih | case7 _ _ ih => exact ih
  | case4 _ _ _ outcome => cases outcome <;> rfl
  | case6 | case8 => rfl

@[simp] theorem Life.isOpen_lifeOpen : Life.isOpen .lifeOpen = true := rfl

@[simp] theorem Life.isOpen_lifeClosed : Life.isOpen .lifeClosed = false := rfl

theorem Life.isOpen_eq_false {l : Life} (hno : l ≠ .lifeOpen) : l.isOpen = false := by
  cases l with
  | lifeNone | lifeClosed => rfl
  | lifeOpen => exact absurd rfl hno

/-! ### The invariant -/

/-- The invariant speaks of two fields only. -/
theorem SessionInv.congr (hs : SessionInv s) (hlife : t.life = s.life)
    (hlog : t.txlog = s.txlog) : SessionInv t := by
  simpa only [SessionInv, hlife, hlog] using hs

/-- One more event keeps the invariant if it is allowed in the old lifecycle state and leaves the
transport as the new one says. -/
theorem SessionInv.of_event (hs : SessionInv s) (hlog : t.txlog = s.txlog ++ [ev])
    (hev : sessionAfter s.life.isOpen [ev] = some t.life.isOpen) : SessionInv t := by
  rw [SessionInv, hlog, sessionAfter_append, hs]
  exact hev

/-- What a command prepares is in the same session. -/
theorem Prepares.life_txlog (hu : Prepares i s u) :
    s.life = .lifeOpen ∧ u.life = s.life ∧ u.txlog = s.txlog := by
  obtain ⟨slots, flag, ho, -, -, -, -⟩ := hu
  exact ⟨ho, rfl, rfl⟩

theorem exec_keeps_sessionInv (hs : SessionInv s) (h : exec i s = .next t) : SessionInv t := by
  cases exec_effect h with
  | refused | recordRejected | indexRejected => exact hs.congr (by simp) (by simp)
  | openFailed e hno =>
    exact hs.of_event (by simp; rfl) (by simp [Life.isOpen_eq_false hno, sessionAfter])
  | built _ hno =>
    exact hs.of_event (by simp; rfl) (by simp [Life.isOpen_eq_false hno, sessionAfter])
  | closed _ _ _ ho => exact hs.of_event (by simp; rfl) (by simp [ho, sessionAfter])
  | completed _ hu =>
    obtain ⟨-, hlife, hlog⟩ := hu.life_txlog
    exact hs.congr hlife hlog
  | wrote _ hu | writeFailed _ hu =>
    obtain ⟨ho, hlife, hlog⟩ := hu.life_txlog
    exact hs.of_event (by simp [hlog]; rfl) (by simp [ho, hlife, sessionAfter])

/-- Settles O18: `open` is logged only while LIFE is not OPEN, a write and `close` only while it is,
and LIFE becomes what the event leaves (R110, R127). -/
theorem stepKeepsTransportSession : Obligations.StepKeepsTransportSession := by
  intro s t hs h
  exact step_keeps (P := SessionInv) (fun _ _ _ hs h => exec_keeps_sessionInv hs h)
    (fun _ _ hs => hs) (fun _ _ hs => hs) hs h

end Sys2Proof.Machine
end

section
/-! Where a command stops (spec/93_implementation_defined.md U9): only at the transport operation
that never answers. -/

namespace Sys2Proof.Machine

variable {p q : Prop} {i : Instr} {s : State} {r body : Result}

/-! ### Outcomes that go on, or stop for a reason -/

/-- The outcome is a next state, or a fault that happens only if `p`; it is no refusal of `exec`. -/
inductive NextOrStop (p : Prop) : Result → Prop
  | next (t : State) : NextOrStop p (.next t)
  | stop (f : Fault) (reason : p) : NextOrStop p (.fault f)

theorem NextOrStop.mono (h : NextOrStop p r) (hpq : p → q) : NextOrStop q r := by
  cases h with
  | next t => exact .next t
  | stop f hp => exact .stop f (hpq hp)

theorem NextOrStop.exists_next (h : NextOrStop p r) (hp : ¬ p) : ∃ t, r = .next t := by
  cases h with
  | next t => exact ⟨t, rfl⟩
  | stop f reason => exact absurd reason hp

theorem NextOrStop.of_fault {f : Fault} (h : NextOrStop p (.fault f)) : p := by
  cases h with
  | stop _ reason => exact reason

theorem not_nextOrStop_refused {why : Refusal} : ¬ NextOrStop p (.refused why) := nofun

/-! ### The shared operations -/

theorem whenOpen_nextOrStop (hbody : s.life = .lifeOpen → NextOrStop p body) :
    NextOrStop p (whenOpen s body) := by
  by_cases ho : s.life = .lifeOpen
  · rw [whenOpen_open s body ho]
    exact hbody ho
  · rw [whenOpen_not_open s body ho]
    exact .next _

theorem flush_nextOrStop (s : State) : NextOrStop (s.transport = .silent) (flush s) := by
  unfold flush
  split
  next => exact .next _
  next => exact .next _
  next hsilent => exact .stop _ hsilent

theorem autoshowTail_nextOrStop (s : State) :
    NextOrStop (s.transport = .silent ∧ s.autoshow = true) (autoshowTail s) := by
  by_cases ha : s.autoshow = true
  · rw [autoshowTail, if_pos ha]
    exact (flush_nextOrStop s).mono fun hsilent => ⟨hsilent, ha⟩
  · rw [autoshowTail, if_neg ha]
    exact .next _

theorem openAndBuild_nextOrStop (cfg : ConfigRecord) (s : State) :
    NextOrStop (s.transport = .silent) (openAndBuild cfg s) := by
  unfold openAndBuild
  split
  next => exact .next _
  next => exact .next _
  next hsilent => exact .stop _ hsilent

/-! ### The commands -/

/-- The command performs a transport operation in this state, if the lifecycle accepts it: SHOW,
CLOSE, NEW with a legal record, a mutation with AUTOSHOW = 1 (R90, R97, R104, R109). -/
def AsksTransport (i : Instr) (s : State) : Prop :=
  i = .showFrame ∨ i = .closeStrip ∨ (i = .newStrip ∧ s.cfgPort.wellFormed = true) ∨
    (mutates s.ledCount i = true ∧ s.autoshow = true)

/-- Why a command stops (93 U9). -/
def Stuck (i : Instr) (s : State) : Prop :=
  s.transport = .silent ∧ accepts s.life i = true ∧ AsksTransport i s

/-- A mutation stops where its autoshow tail does. -/
theorem exec_nextOrStop_of_mutates (ho : s.life = .lifeOpen) (hn : i ≠ .newStrip)
    (hm : mutates s.ledCount i = true) : NextOrStop (Stuck i s) (exec i s) := by
  obtain ⟨slots, hexec⟩ := exec_eq_autoshowTail_of_mutates ho hm
  rw [hexec]
  exact (autoshowTail_nextOrStop _).mono fun ⟨hsilent, ha⟩ =>
    ⟨hsilent, (accepts_of_ne_newStrip hn).2 ho, .inr (.inr (.inr ⟨hm, ha⟩))⟩

theorem exec_newStrip_nextOrStop (s : State) : NextOrStop (Stuck .newStrip s) (exec .newStrip s) := by
  show NextOrStop _ (execNew s)
  unfold execNew
  split
  next => exact .next _
  next hno =>
    split
    next => exact .next _
    next hlegal =>
      exact (openAndBuild_nextOrStop s.cfgPort s).mono fun hsilent =>
        ⟨hsilent, accepts_newStrip.2 hno, .inr (.inr (.inl ⟨rfl, (configError_none _).1 hlegal⟩))⟩

theorem exec_closeStrip_nextOrStop (s : State) :
    NextOrStop (Stuck .closeStrip s) (exec .closeStrip s) := by
  refine whenOpen_nextOrStop fun ho => ?_
  split
  next => exact .next _
  next => exact .next _
  next hsilent => exact .stop _ ⟨hsilent, by simp [accepts, ho], .inr (.inl rfl)⟩

/-- Every command in every state goes on, or is stuck. -/
theorem exec_nextOrStop (i : Instr) (s : State) : NextOrStop (Stuck i s) (exec i s) := by
  by_cases hn : i = .newStrip
  · subst hn
    exact exec_newStrip_nextOrStop s
  by_cases ho : s.life = .lifeOpen
  swap
  · rw [commandsOutsideLifecycleAreRefused.2 i s hn ho]
    exact .next _
  cases i with
  | getSlot index =>
    rcases Nat.lt_or_ge index.toNat s.ledCount.toNat with hi | hi
    · rw [exec_getSlot_of_lt ho hi]
      exact .next _
    · rw [exec_getSlot_of_le ho hi]
      exact .next _
  | setSlot index c =>
    rcases Nat.lt_or_ge index.toNat s.ledCount.toNat with hi | hi
    · exact exec_nextOrStop_of_mutates ho hn (decide_eq_true hi)
    · rw [exec_setSlot_of_le c ho hi]
      exact .next _
  | setRange | setAll => exact exec_nextOrStop_of_mutates ho hn rfl
  | showFrame =>
    rw [exec_showFrame_of_open ho]
    exact (flush_nextOrStop s).mono fun hsilent => ⟨hsilent, by simp [accepts, ho], .inl rfl⟩
  | setAutoshow flag =>
    rw [exec_setAutoshow_of_open flag ho]
    exact .next _
  | closeStrip => exact exec_closeStrip_nextOrStop s
  | newStrip => exact absurd rfl hn
  | encodeFrame =>
    rw [exec_encodeFrame_of_open ho]
    exact .next _

/-- Settles O11: a command that does not go on is stuck, and so its transport is silent. -/
theorem commandsCompleteWhenTransportAnswers :
    Obligations.CommandsCompleteWhenTransportAnswers :=
  fun i s hanswers => (exec_nextOrStop i s).exists_next fun ⟨hsilent, _⟩ => hanswers hsilent

/-- Settles O12: `exec_nextOrStop`, which leaves a stuck command as the only fault and no refusal. -/
theorem onlySilentTransportStops : Obligations.OnlySilentTransportStops :=
  ⟨fun i s _ h => (h ▸ exec_nextOrStop i s).of_fault,
    fun i s _ h => not_nextOrStop_refused (h ▸ exec_nextOrStop i s)⟩

/-! ### No command -/

/-- Settles O9: with no request the step is `idle` (log 15). -/
theorem idleBlockKeepsState : Obligations.IdleBlockKeepsState := by
  intro s h
  simp only [step, nextRequest, h, List.head?_nil, idle_eq]

end Sys2Proof.Machine
end

section
/-! AUTOSHOW does not reach the buffer (spec/10_state.md R28, spec/40_buffer_ops.md R90): two states
that are the same up to AUTOSHOW and its traces (LAST_STATUS, TXLOG, the responses) stay so, because
a transmission writes traces only. -/

namespace Sys2Proof.Machine

variable {i : Instr} {s s' t t' u u' : State} {r r' body body' : Result}

/-! ### `SameBuffer` is an equivalence

It is an equation for the second state, so a proof rewrites with it. -/

theorem SameBuffer.symm (h : SameBuffer s t) : SameBuffer t s := by rw [h]; rfl

theorem SameBuffer.trans (h : SameBuffer s t) (hu : SameBuffer t u) : SameBuffer s u := by
  rw [hu, h]; rfl

theorem SameBuffer.life_eq (h : SameBuffer s t) : t.life = s.life := by rw [h]

theorem SameBuffer.ledCount_eq (h : SameBuffer s t) : t.ledCount = s.ledCount := by rw [h]

theorem SameBuffer.cfgPort_eq (h : SameBuffer s t) : t.cfgPort = s.cfgPort := by rw [h]

theorem SameBuffer.transport_eq (h : SameBuffer s t) : t.transport = s.transport := by rw [h]

theorem SameBuffer.currentFrame_eq (h : SameBuffer s t) : currentFrame s = currentFrame t := by
  rw [h]; rfl

/-! ### Operations that write traces only -/

theorem raise_sameBuffer (e : CommandError) (s : State) : SameBuffer s (raise e s) := by
  obtain ⟨st, heq, -⟩ := raise_eq e s
  rw [heq]
  rfl

theorem SameBuffer.raise (h : SameBuffer s t) (e : CommandError) :
    SameBuffer (raise e s) (raise e t) :=
  ((raise_sameBuffer e s).symm.trans h).trans (raise_sameBuffer e t)

/-- The outcome, if it goes on, is the state `u` up to the traces. -/
def KeepsBuffer (u : State) (r : Result) : Prop := ∀ t, r = .next t → SameBuffer u t

/-- A transmission writes traces only, whatever the transport answers. -/
theorem flush_keepsBuffer (u : State) : KeepsBuffer u (flush u) := by
  intro t h
  rcases flush_next h with ⟨_, -, rfl⟩ | ⟨_, -, rfl⟩
  · rfl
  · exact raise_sameBuffer _ (logEvent _ u)

/-- So whether the autoshow tail transmits does not matter. -/
theorem autoshowTail_keepsBuffer (u : State) : KeepsBuffer u (autoshowTail u) := by
  intro t h
  rcases autoshowTail_next h with ⟨-, hf⟩ | ⟨-, rfl⟩
  · exact flush_keepsBuffer u t hf
  · rfl

/-! ### Two outcomes of one command -/

/-- The outcomes, if both go on, are the same up to the traces. -/
def SameBufferAfter (r r' : Result) : Prop :=
  ∀ t t', r = .next t → r' = .next t' → SameBuffer t t'

theorem KeepsBuffer.sameBufferAfter (h : KeepsBuffer u r) (h' : KeepsBuffer u' r')
    (hu : SameBuffer u u') : SameBufferAfter r r' :=
  fun t t' ht ht' => ((h t ht).symm.trans hu).trans (h' t' ht')

theorem SameBufferAfter.of_next (h : SameBuffer t t') :
    SameBufferAfter (.next t) (.next t') := by
  rintro _ _ ⟨⟩ ⟨⟩
  exact h

theorem autoshowTail_sameBufferAfter (hu : SameBuffer u u') :
    SameBufferAfter (autoshowTail u) (autoshowTail u') :=
  (autoshowTail_keepsBuffer u).sameBufferAfter (autoshowTail_keepsBuffer u') hu

theorem whenOpen_sameBufferAfter (hs : SameBuffer s s') (hbody : SameBufferAfter body body') :
    SameBufferAfter (whenOpen s body) (whenOpen s' body') := by
  by_cases ho : s.life = .lifeOpen
  · rwa [whenOpen_open s body ho, whenOpen_open s' body' (hs.life_eq.trans ho)]
  · rw [whenOpen_not_open s body ho, whenOpen_not_open s' body' (hs.life_eq ▸ ho)]
    exact .of_next (by rw [hs]; rfl)

theorem ite_sameBufferAfter {p : Prop} [Decidable p] {q q' : Result}
    (hr : SameBufferAfter r r') (hq : SameBufferAfter q q') :
    SameBufferAfter (if p then r else q) (if p then r' else q') := by
  split
  · exact hr
  · exact hq

/-- What NEW does is decided by LIFE, the record and the transport's answer, which are the same. -/
theorem exec_newStrip_sameBufferAfter (hs : SameBuffer s s') :
    SameBufferAfter (exec .newStrip s) (exec .newStrip s') := by
  intro t t' h h'
  rcases execNew_next h with ⟨ho, rfl⟩ | ⟨hno, f, hf, rfl⟩ | ⟨hno, hlegal, hopen⟩
  · cases (exec_newStrip_of_open (hs.life_eq.trans ho)).symm.trans h'
    rw [hs]; rfl
  · have hno' : s'.life ≠ .lifeOpen := hs.life_eq ▸ hno
    cases (exec_newStrip_of_illegal hno' (hs.cfgPort_eq ▸ hf)).symm.trans h'
    exact hs.raise _
  · have hno' : s'.life ≠ .lifeOpen := hs.life_eq ▸ hno
    have hlegal' : configError s'.cfgPort = none := hs.cfgPort_eq ▸ hlegal
    rcases openAndBuild_next hopen with ⟨hd, ha, rfl⟩ | ⟨e, ha, rfl⟩
    · cases (exec_newStrip_of_legal hno' hlegal' (hs.transport_eq.trans ha)).symm.trans h'
      rw [hs]; rfl
    · cases (exec_newStrip_of_transport_err hno' hlegal' (hs.transport_eq.trans ha)).symm.trans h'
      rw [hs.cfgPort_eq]
      exact SameBuffer.raise (by rw [hs]; rfl) _

/-- CLOSE discards the instance whatever the transport answers. -/
theorem exec_closeStrip_sameBufferAfter (hs : SameBuffer s s') :
    SameBufferAfter (exec .closeStrip s) (exec .closeStrip s') := by
  intro t t' h h'
  rcases execClose_next h with ⟨hno, rfl⟩ | ⟨ho, hd, ha, rfl⟩ | ⟨ho, e, ha, rfl⟩
  · cases (whenOpen_not_open _ _ (hs.life_eq ▸ hno)).symm.trans h'
    rw [hs]; rfl
  · cases (exec_closeStrip_of_transport_ok (hs.life_eq.trans ho)
      (hs.transport_eq.trans ha)).symm.trans h'
    rw [hs]; rfl
  · cases (exec_closeStrip_of_transport_err (hs.life_eq.trans ho)
      (hs.transport_eq.trans ha)).symm.trans h'
    rw [hs]; rfl

/-- Every command keeps two such states together: it writes the same slots in both, and what follows
the write leaves traces only. -/
theorem exec_sameBufferAfter (hs : SameBuffer s s') :
    SameBufferAfter (exec i s) (exec i s') := by
  cases i with
  | newStrip => exact exec_newStrip_sameBufferAfter hs
  | closeStrip => exact exec_closeStrip_sameBufferAfter hs
  | getSlot index =>
    refine whenOpen_sameBufferAfter hs ?_
    rw [hs.ledCount_eq]
    exact ite_sameBufferAfter (.of_next (by rw [hs]; rfl)) (.of_next (hs.raise _))
  | setSlot index c =>
    refine whenOpen_sameBufferAfter hs ?_
    rw [hs.ledCount_eq]
    exact ite_sameBufferAfter (autoshowTail_sameBufferAfter (by rw [hs]; rfl))
      (.of_next (hs.raise _))
  | setRange | setAll =>
    exact whenOpen_sameBufferAfter hs (autoshowTail_sameBufferAfter (by rw [hs]; rfl))
  | showFrame =>
    exact whenOpen_sameBufferAfter hs
      ((flush_keepsBuffer s).sameBufferAfter (flush_keepsBuffer s') hs)
  | setAutoshow | encodeFrame =>
    exact whenOpen_sameBufferAfter hs (.of_next (by rw [hs]; rfl))

/-! ### Runs -/

/-- A run that completes goes on after its first command. -/
theorem runCommands_cons_next {x : Instr × TransportAnswer}
    {rest : List (Instr × TransportAnswer)}
    (h : runCommands (x :: rest) s = .next t) :
    ∃ u, exec x.1 { s with transport := x.2 } = .next u ∧ runCommands rest u = .next t := by
  rw [runCommands] at h
  split at h
  next u hu => exact ⟨u, hu, h⟩
  next => cases h
  next => cases h

theorem runCommands_sameBufferAfter (run : List (Instr × TransportAnswer)) (hs : SameBuffer s s') :
    SameBufferAfter (runCommands run s) (runCommands run s') := by
  intro t t' h h'
  induction run generalizing s s' with
  | nil =>
    cases h
    cases h'
    exact hs
  | cons x rest ih =>
    obtain ⟨u, hu, hrest⟩ := runCommands_cons_next h
    obtain ⟨u', hu', hrest'⟩ := runCommands_cons_next h'
    exact ih (exec_sameBufferAfter (by rw [hs]; rfl) u u' hu hu') hrest hrest'

/-- Settles O47: an induction over the run with `SameBuffer` as the simulation relation, which every
command keeps under the same answer; the frame is a function of what the relation fixes. -/
theorem autoshowDoesNotChangeTheBuffer : Obligations.AutoshowDoesNotChangeTheBuffer := by
  intro run s s' t t' hs h h'
  have ht : SameBuffer t t' := runCommands_sameBufferAfter run hs t t' h h'
  exact ⟨ht, ht.currentFrame_eq⟩

end Sys2Proof.Machine
end

section
/-! The power-on state (spec/10_state.md R36, spec/70_reset_and_hazards.md R133). -/

namespace Sys2Proof.Machine

theorem reset_life_ne_lifeOpen : State.reset.life ≠ .lifeOpen := by decide

/-- Settles O14: LIFE is NONE, so NEW is accepted, and every other command asks for OPEN. -/
theorem powerOnState : Obligations.PowerOnState := by
  refine ⟨rfl, rfl, rfl, rfl, fun i => ⟨fun ha => ?_, ?_⟩⟩
  · by_contra hn
    exact reset_life_ne_lifeOpen ((accepts_of_ne_newStrip hn).1 ha)
  · rintro rfl
    exact accepts_newStrip.2 reset_life_ne_lifeOpen

/-- Settles O15: the clauses for LIFE = OPEN are void at power-on; HANDLE is none, and an
empty TXLOG leaves no session open. -/
theorem powerOnMeetsInvariants : Obligations.PowerOnMeetsInvariants :=
  ⟨⟨fun ho => absurd ho reset_life_ne_lifeOpen, fun _ => rfl⟩,
    fun ho => absurd ho reset_life_ne_lifeOpen, rfl,
    fun ho => absurd ho reset_life_ne_lifeOpen⟩

end Sys2Proof.Machine
end

section
/-! The commands that ask a transport which never answers are stuck
(spec/93_implementation_defined.md U9): the converse of `exec_nextOrStop`. -/

namespace Sys2Proof.Machine

variable {i : Instr} {s : State}

theorem flush_of_transport_silent (hsilent : s.transport = .silent) :
    flush s = .fault .transportSilent := by
  simp only [flush, hsilent]

theorem autoshowTail_of_transport_silent (ha : s.autoshow = true)
    (hsilent : s.transport = .silent) : autoshowTail s = .fault .transportSilent :=
  (if_pos ha).trans (flush_of_transport_silent hsilent)

theorem exec_closeStrip_of_transport_silent (ho : s.life = .lifeOpen)
    (hsilent : s.transport = .silent) : exec .closeStrip s = .fault .transportSilent := by
  simp [exec, execClose, whenOpen_open s _ ho, hsilent]

theorem exec_newStrip_of_transport_silent (hno : s.life ≠ .lifeOpen)
    (hlegal : configError s.cfgPort = none) (hsilent : s.transport = .silent) :
    exec .newStrip s = .fault .transportSilent := by
  simp [exec, execNew, openAndBuild, hno, hlegal, hsilent]

/-- A mutation writes its slots first, and its autoshow tail then meets the same AUTOSHOW and the same
transport. -/
theorem exec_of_mutates_of_transport_silent (ho : s.life = .lifeOpen)
    (hm : mutates s.ledCount i = true) (ha : s.autoshow = true) (hsilent : s.transport = .silent) :
    exec i s = .fault .transportSilent := by
  obtain ⟨slots, hexec⟩ := exec_eq_autoshowTail_of_mutates ho hm
  rw [hexec]
  exact autoshowTail_of_transport_silent ha hsilent

theorem ne_newStrip_of_mutates {n : Index} (hm : mutates n i = true) : i ≠ .newStrip := by
  rintro rfl
  cases hm

/-- Settles O13: NEW asks while LIFE is not OPEN, SHOW, CLOSE and the mutations while it is, and each
of them then waits for the same answer. -/
theorem silentTransportStopsCommands : Obligations.SilentTransportStopsCommands := by
  intro i s hsilent hacc hasks
  have hopen : i ≠ .newStrip → s.life = .lifeOpen := fun hn => (accepts_of_ne_newStrip hn).1 hacc
  rcases hasks with rfl | rfl | ⟨rfl, hlegal⟩ | ⟨hm, ha⟩
  · exact (exec_showFrame_of_open (hopen nofun)).trans (flush_of_transport_silent hsilent)
  · exact exec_closeStrip_of_transport_silent (hopen nofun) hsilent
  · exact exec_newStrip_of_transport_silent (accepts_newStrip.1 hacc)
      ((configError_none _).2 hlegal) hsilent
  · exact exec_of_mutates_of_transport_silent (hopen (ne_newStrip_of_mutates hm)) hm ha hsilent

end Sys2Proof.Machine
end
